-- ==== Sys2Proof/Word.lean ====
section
/-! DEFINITION. The bit-vector types of the machine: what the spec calls a byte, a 16-bit quantity, a 4-bit field, a bit number. -/

namespace Sys2Proof

/-- A byte: every register and every memory cell (10_state.md R12; 20_memory.md R61). -/
abbrev Byte := BitVec 8

/-- A 16-bit quantity: the program counter, a register pair, an address of program or data memory. -/
abbrev Word := BitVec 16

/-- A 4-bit field of an instruction: the number of a working register (30_encoding.md R82, class r). -/
abbrev Nibble := BitVec 4

/-- A 3-bit field: a bit number b, or half the number of a working register pair (30_encoding.md R82, R87). -/
abbrev Tri := BitVec 3

end Sys2Proof
end

