-- ==== Sys2Proof/Config.lean ====
section
/-! DEFINITION. What an implementation fixes and what the spec leaves open. The constants without a body are the free values:
nothing in Lean can evaluate them, so a theorem holds whatever the hardware does there (00_scope.md R8, `draw`). -/

namespace Sys2Proof.Config

/-- The address of the first instruction after reset (92 D9; 10_state.md R40). -/
def resetPc : Word := 0x0100#16

/-- The number of interrupt sources of the chip (00_scope.md R4, `N_IRQ_SOURCES`; 60_exceptions.md R280). -/
def sourceCount : Nat := 22

/-- The number of interrupt vectors of the chip (00_scope.md R4, `N_IRQ_VECTORS`; 60_exceptions.md R280). -/
def vectorCount : Nat := 16

/-- The number of interrupt levels the chip uses (00_scope.md R4, `N_IRQ_LEVELS`; 60_exceptions.md R280). -/
def levelCount : Nat := 7

/-- The general-purpose bytes of the chip (00_scope.md R4, `RAM_SIZE`; 10_state.md R10). -/
def ramSize : Nat := 272

/-- The registers of the chip, control registers among them (00_scope.md R4, `RAM_SIZE`; 10_state.md R10). -/
def registerCount : Nat := 318

/-- What a free value is drawn for. Each step has a fresh value for each of these, so two draws of one step never coincide by
construction (log 8). The docstring of each names the rule that leaves the value open. -/
inductive DrawSlot where
  /-- V after DA, BAND, BOR, BXOR, BCP, BITC and SWAP (10_state.md R23; U13). -/
  | overflowFlag
  /-- C after SWAP (45_rotate_shift.md R255; U13), after DIV by 0 (R171; U14), after DA outside its table (R165; U16). -/
  | carryFlag
  /-- S after DIV by 0 or with a quotient above FFH (41_arithmetic.md R171; U14). -/
  | signFlag
  /-- Z after INCW and DECW (41_arithmetic.md R168, R169; U15). -/
  | zeroFlag
  /-- The even register of DIV's destination where V = 1 (R171; U14). -/
  | divHigh
  /-- The odd register of DIV's destination where V = 1 (R171; U14). -/
  | divLow
  /-- The result of DA outside its table (R165; U16). -/
  | decimalResult
  /-- The byte an unordered pair of writes leaves, or that an unordered push stores (40_load.md R140, R141, R145 to R150; U11). -/
  | overlap
  /-- FIS after a software write to FLAGS that would change it (10_state.md R22; U12). -/
  | fastStatus
  /-- Bits 7..5 of SYM as an instruction reads them (10_state.md R28; U17). -/
  | symUnused
  /-- Whether the boundary after EI, IRET or a write to SYM, IMR, IPR already takes a request (60_exceptions.md R295; U25). -/
  | latency
  /-- Whether a request ends IDLE or STOP while SYM.0 = 0 (46_cpu_control.md R270; D16). -/
  | release
  /-- Whether SYM.0 stays set at a fast interrupt entry (60_exceptions.md R298; U23). -/
  | fastEntryEnable
  /-- Whether the latch of a fast interrupt stays set at its entry (R298; U23). -/
  | fastEntryLatch
  /-- Whether a fast return sets SYM.0 (60_exceptions.md R299; U23). -/
  | fastReturnEnable
  /-- A control register without a reset value, after a reset during a run (10_state.md R40): FLAGS bits 7..2. -/
  | resetFlags
  /-- As `resetFlags`: FLAGS'. -/
  | resetShadow
  /-- As `resetFlags`: SPH. -/
  | resetSph
  /-- As `resetFlags`: SPL. -/
  | resetSpl
  /-- As `resetFlags`: IPH. -/
  | resetIph
  /-- As `resetFlags`: IPL. -/
  | resetIpl
  /-- As `resetFlags`: IMR. -/
  | resetImr
  /-- As `resetFlags`: SYM bits 4..2 (FIL). -/
  | resetSym
  /-- As `resetFlags`: IPR. -/
  | resetIpr
  /-- As `resetFlags`: BTCNT. -/
  | resetBtcnt
  deriving DecidableEq, Repr

/-- A free byte: for each slot a fresh one at every tick (00_scope.md R8, `draw`). A free bit is its bit 0 (`State.drawBit`). -/
opaque draw : DrawSlot → Nat → Byte

/-- What an instruction reads from a volatile register: it may depend on the register (its location's number), on the
instruction (the tick) and on the byte last written there, and is otherwise open (20_memory.md R62; D15). -/
opaque volatileRead : Nat → Nat → Byte → Byte

/-- The latch of a software-cleared source after a write to the register that holds its pending bit: a property of the
peripheral, not specified (60_exceptions.md R291). Arguments: the source, the latch before, the byte written. -/
opaque pendingAfterWrite : Nat → Bool → Byte → Bool

/-- The six orders of the three groups of interrupt levels (10_state.md R31), highest first. -/
inductive GroupOrder where
  | bca | abc | bac | cab | cba | acb
  deriving DecidableEq, Repr, Inhabited

/-- The order of the groups while IPR bits 7, 4, 1 are 000B or 111B: drawn once per write of IPR, which the tick of that write
names (10_state.md R31; U9). -/
opaque undefinedGroupOrder : Nat → GroupOrder

end Sys2Proof.Config
end

