-- ==== Sys2Proof/Machine/State.lean ====
section
/-! DEFINITION. The machine's state as plain data: every register, memory, latch and mode the spec names, the parameters of a launch, the
inputs the environment has still to give, and the reasons a step can stop. INVENTORY.md, '## State', cites the rule of each field. -/

namespace Sys2Proof.Machine

/-! ## Places of the register file -/

/-- The sixteen system control registers of set 1, D0H to DFH, in the order of their addresses (10_state.md R26). -/
inductive SysReg where
  | t0cnt | t0data | t0con | btcon | clkcon | flags | rp0 | rp1
  | sph | spl | iph | ipl | irq | imr | sym | pp
  deriving DecidableEq, Repr

/-- A physical place of the register file (10_state.md R12). -/
inductive Loc where
  /-- `Prime[page][a]` for a below C0H, `Set2[page][a]` from C0H on: what computed addresses reach (R15). -/
  | ram (page : Nibble) (a : Byte)
  /-- `Common[C0H + n]`. -/
  | common (n : Nibble)
  /-- `Sys[D0H..DFH]`. -/
  | sys (r : SysReg)
  /-- `Bank[b][E0H + n]`, the peripheral registers (R35); bank 0 FFH is `ipr`. -/
  | bank (b : Bool) (n : BitVec 5)
  /-- `Bank[0][FFH]`, the interrupt priority register (R31). -/
  | ipr
  deriving DecidableEq, Repr

/-- A bit of a register, as a source's enable and pending bits are given (60_exceptions.md R285). -/
structure RegBit where
  reg : Loc
  bit : Tri
  deriving DecidableEq, Repr

/-! ## The parameters of a launch -/

/-- The four parts (00_scope.md R1); the one-time-programmable parts are as their mask-ROM counterparts. -/
inductive Part where
  | f9 | f7 | g9 | g7
  deriving DecidableEq, Repr

/-- The highest implemented program address (00_scope.md R4, `ROM_TOP`). -/
def Part.romTop : Part → Nat
  | .f9 => 0x7FFF
  | .g9 => 0x7FFF
  | .f7 => 0x5FFF
  | .g7 => 0x5FFF

/-- Whether low-voltage detection is disabled in Stop mode (60_exceptions.md R314: the G parts). -/
def Part.lvdOffInStop : Part → Bool
  | .f9 => false
  | .f7 => false
  | .g9 => true
  | .g7 => true

/-- One entry of `VECTOR_MAP` (60_exceptions.md R285). -/
structure Source where
  /-- The interrupt level, IRQ0 to IRQ7. -/
  level : Tri
  /-- The vector's program address 00H to FEH, even. -/
  vector : Byte
  /-- A pin of port 0 or port 2: such a source can release Stop mode (46_cpu_control.md R272). -/
  external : Bool
  enable : RegBit
  pendingBit : RegBit
  /-- The latch is cleared by hardware when the request is accepted; otherwise by software (R291). -/
  hardwareClear : Bool
  deriving DecidableEq, Repr

/-- The parameters the spec leaves to a launch (00_scope.md R5; 92 "Open parameters in one place"). No step changes them (log 6). -/
structure Launch where
  part : Part
  /-- `HAS_EXT_DATA_MEM` (D13). -/
  hasExtDataMem : Bool
  /-- `N_PAGES`, 1 to 16 (D14). -/
  nPages : Nat
  /-- `STOP_ENABLE` (D31): none is `always`; a register and its key is `keyed`. -/
  stopKey : Option (Loc × Byte)
  /-- `VECTOR_MAP` (D22): the sources, in the fixed hardware order among sources of one level (R289). -/
  vectorMap : List Source
  /-- The register addresses that `PERIPHERAL_MAP` does not implement (D15; U7). -/
  absent : List Loc
  deriving DecidableEq, Repr

/-- The defaults of the spec: an S3C80F9, one page, no external data memory, STOP always honoured, both open maps empty. -/
def Launch.default : Launch where
  part := .f9
  hasExtDataMem := false
  nPages := 1
  stopKey := none
  vectorMap := []
  absent := []

/-- How many different values a list holds. -/
def countDistinct {α : Type} [DecidableEq α] (l : List α) : Nat := l.eraseDups.length

/-- The counts of `VECTOR_MAP` (60_exceptions.md R280, R285; 92 D22): 22 sources with 16 vectors and 7 levels, or the map left open. -/
def Launch.sourcesCounted (l : Launch) : Bool :=
  l.vectorMap.isEmpty
    || (l.vectorMap.length == Config.sourceCount
      && countDistinct (l.vectorMap.map Source.vector) == Config.vectorCount
      && countDistinct (l.vectorMap.map Source.level) == Config.levelCount)

/-- The general-purpose bytes of a launch: `Prime` and `Set2` of each page, and `Common` (10_state.md R12). -/
def Launch.generalBytes (l : Launch) : Nat := l.nPages * (192 + 64) + 16

/-- The addresses `PERIPHERAL_MAP` speaks of (92 "Open parameters in one place"): D0H to D2H, and E0H to FFH of the two banks but IPR. -/
def peripheralPlaces : List Loc :=
  [.sys .t0cnt, .sys .t0data, .sys .t0con]
    ++ (List.range 31).map (fun n => .bank false (BitVec.ofNat 5 n))
    ++ (List.range 32).map (fun n => .bank true (BitVec.ofNat 5 n))

/-- The control and peripheral registers of a launch: D3H to DFH, IPR, and what `PERIPHERAL_MAP` implements (10_state.md R10, R12). -/
def Launch.controlRegisters (l : Launch) : Nat := 13 + 1 + (peripheralPlaces.filter (fun p => !l.absent.contains p)).length

/-- The count of registers (00_scope.md R4; 10_state.md R10): 318 - 272 = 46 control and peripheral registers, or `PERIPHERAL_MAP` left
open. -/
def Launch.registersCounted (l : Launch) : Bool :=
  l.absent.isEmpty || l.controlRegisters == Config.registerCount - Config.ramSize

/-- What the spec fixes of the launch parameters: the counts of R4, and `N_PAGES` from 1 to 16 (92 D14). -/
def Launch.conforms (l : Launch) : Bool :=
  l.sourcesCounted && l.registersCounted && decide (1 ≤ l.nPages) && decide (l.nPages ≤ 16)

/-! ## Modes, inputs, outputs, memory -/

/-- `power_mode` (10_state.md R36). -/
inductive PowerMode where
  | run | idle | stop | backup
  deriving DecidableEq, Repr

/-- What the environment can do at an instruction boundary (00_scope.md R6.1; 60_exceptions.md R295, R303). -/
inductive EnvEvent where
  /-- The event of a source: it sets the source's pending latch (R291). -/
  | raise (src : Nat)
  /-- The basic timer counts n times; an overflow resets the chip while the watchdog is enabled (R306). -/
  | basicTimer (n : Nat)
  /-- The RESET pin goes low: Back-up mode (R314; 70 R320). -/
  | resetPinLow
  /-- The supply falls below V_LVD: Back-up mode (R314). -/
  | supplyLow
  /-- The RESET pin is high and the supply sufficient again: the reset sequence runs (70 R320, R326). -/
  | resetRelease
  deriving DecidableEq, Repr

/-- A recorded write to a peripheral register (20_memory.md R62; D29). -/
structure PeriphWrite where
  loc : Loc
  value : Byte
  deriving DecidableEq, Repr

/-- A memory: the bytes that differ from what an unlisted address reads as, at strictly rising addresses. -/
abbrev Memory := List Host.Cell

/-! ## The state -/

/-- The state of the machine. -/
structure State where
  /-- The launch parameters; constant along a run. -/
  launch : Launch
  /-- The program counter (10_state.md R20). -/
  pc : Word
  /-- FLAGS, `Sys[D5H]` (R22). -/
  flags : Byte
  /-- FLAGS', the shadow of a fast interrupt (R36). -/
  flagsShadow : Byte
  /-- RP0, `Sys[D6H]` (R27). -/
  rp0 : Byte
  /-- RP1, `Sys[D7H]` (R27). -/
  rp1 : Byte
  /-- SPH, `Sys[D8H]`, an ordinary byte on this chip (R24). -/
  sph : Byte
  /-- SPL, `Sys[D9H]`, the stack pointer (R24). -/
  spl : Byte
  /-- IPH, `Sys[DAH]` (R25). -/
  iph : Byte
  /-- IPL, `Sys[DBH]` (R25). -/
  ipl : Byte
  /-- IMR, `Sys[DDH]` (R29). -/
  imr : Byte
  /-- SYM, `Sys[DEH]`: bits 4..0; bits 7..5 are not used and not stored (R28; U17). -/
  sym : Byte
  /-- PP, `Sys[DFH]` (R32). -/
  pp : Byte
  /-- IPR, `Bank[0][FFH]` (R31). -/
  ipr : Byte
  /-- The tick of the last write to IPR (U9, "drawn once per write of IPR"); the model's own. -/
  iprEpoch : Nat
  /-- T0CNT, `Sys[D0H]` (R26). -/
  t0cnt : Byte
  /-- T0DATA, `Sys[D1H]` (R26). -/
  t0data : Byte
  /-- T0CON, `Sys[D2H]` (R26). -/
  t0con : Byte
  /-- BTCON, `Sys[D3H]`: bits 7..2; bits 1 and 0 read as 0 (R33). -/
  btcon : Byte
  /-- CLKCON, `Sys[D4H]`: bits 7, 4, 3; the others are not used (R34; U17). -/
  clkcon : Byte
  /-- BTCNT, the basic timer counter (R36). -/
  btcnt : Byte
  /-- `Prime`, `Set2`, `Common` and the bytes last written to `Bank`, keyed by `Loc.key` (R12). -/
  regs : Memory
  /-- Program memory (20_memory.md R54). -/
  rom : Memory
  /-- External data memory, where the launch has one (20_memory.md R57). -/
  data : Memory
  /-- The pending latches of the 22 sources (R36). -/
  pending : BitVec 22
  /-- `power_mode` (R36). -/
  power : PowerMode
  /-- The wait state of WFI (43_program_control.md R214). -/
  waiting : Bool
  /-- The instruction just executed was EI, IRET or a write to SYM, IMR, IPR (60_exceptions.md R295); the model's own. -/
  latency : Bool
  /-- The writes to peripheral registers, latest first (D29). -/
  events : List PeriphWrite
  /-- The inputs still to arrive, one entry a boundary (D11); the model's own. -/
  env : List (List EnvEvent)
  /-- The number of steps taken: makes each step's free values fresh; the model's own. -/
  tick : Nat
  deriving DecidableEq, Repr

/-! ## Why a step can stop -/

/-- The model's faults (60_exceptions.md R287: they are no exceptions of the machine). -/
inductive Fault where
  /-- Bytes that are no defined instruction (30_encoding.md R88; U1 to U3, D7). Raised by fetch. Safe: the run stops. -/
  | illegalOpcode
  /-- A program-memory access above `ROM_TOP` (20_memory.md R54; U6, D12). Raised by fetch, vector, table, IP-list and LDC reads. Safe. -/
  | progAddressOutOfRange
  deriving DecidableEq, Repr

/-- The model's refusals: behaviour the spec puts outside its rules and gives no effect for. -/
inductive Refusal where
  /-- An instruction without a meaning yet. Raised by `exec`. Safe. -/
  | notModelled (mnemonic : String)
  /-- A register pair with an odd address (10_state.md R16; U4, D3). Raised by fetch and by pair operands. Safe. -/
  | oddPair
  /-- CALL IA with an odd operand (20_memory.md R60; U5). Raised by fetch and by CALL IA. Safe. -/
  | oddTableAddress
  /-- An interrupt vector at an odd address (20_memory.md R60; U5). Raised by interrupt entry. Safe. -/
  | oddVector
  /-- A register address that `PERIPHERAL_MAP` does not implement (10_state.md R35; U7, D15). Raised by register access. Safe. -/
  | unimplementedRegister
  /-- An access to a register page that does not exist (10_state.md R32; U7). Raised by register access. Safe. -/
  | pageAbsent
  /-- PP written with a page number that does not exist (10_state.md R32; U10, D14). Raised by register writes. Safe. -/
  | pageSelect
  /-- IMR written while SYM.0 = 1 (70_reset_and_hazards.md R333; U18, D32). Raised by register writes. Safe. -/
  | maskWriteWhileEnabled
  /-- A store to program memory (20_memory.md R55; U8, D6). Raised by the stores of the LDC family. Safe. -/
  | programStore
  /-- An access to external data memory that is absent (20_memory.md R57; U26, D13). Raised by the LDE family. Safe. -/
  | noDataMemory
  deriving DecidableEq, Repr

/-- Why an operation has no result. -/
inductive Stop where
  | fault (f : Fault)
  | refusal (r : Refusal)
  deriving DecidableEq, Repr

/-- The result of an operation, or why it stops. -/
abbrev Res (α : Type) := Except Stop α

/-! ## Plain updates, one per field -/

/-- `s` with another `pc`. -/
def State.setPc (s : State) (v : Word) : State := { s with pc := v }

/-- `s` with another `flags`. -/
def State.setFlags (s : State) (v : Byte) : State := { s with flags := v }

/-- `s` with another `flagsShadow`. -/
def State.setFlagsShadow (s : State) (v : Byte) : State := { s with flagsShadow := v }

/-- `s` with another `rp0`. -/
def State.setRp0 (s : State) (v : Byte) : State := { s with rp0 := v }

/-- `s` with another `rp1`. -/
def State.setRp1 (s : State) (v : Byte) : State := { s with rp1 := v }

/-- `s` with another `sph`. -/
def State.setSph (s : State) (v : Byte) : State := { s with sph := v }

/-- `s` with another `spl`. -/
def State.setSpl (s : State) (v : Byte) : State := { s with spl := v }

/-- `s` with another `iph`. -/
def State.setIph (s : State) (v : Byte) : State := { s with iph := v }

/-- `s` with another `ipl`. -/
def State.setIpl (s : State) (v : Byte) : State := { s with ipl := v }

/-- `s` with another `imr`. -/
def State.setImr (s : State) (v : Byte) : State := { s with imr := v }

/-- `s` with another `sym`. -/
def State.setSym (s : State) (v : Byte) : State := { s with sym := v }

/-- `s` with another `pp`. -/
def State.setPp (s : State) (v : Byte) : State := { s with pp := v }

/-- `s` with another `ipr`. -/
def State.setIpr (s : State) (v : Byte) : State := { s with ipr := v }

/-- `s` with another `iprEpoch`. -/
def State.setIprEpoch (s : State) (v : Nat) : State := { s with iprEpoch := v }

/-- `s` with another `t0cnt`. -/
def State.setT0cnt (s : State) (v : Byte) : State := { s with t0cnt := v }

/-- `s` with another `t0data`. -/
def State.setT0data (s : State) (v : Byte) : State := { s with t0data := v }

/-- `s` with another `t0con`. -/
def State.setT0con (s : State) (v : Byte) : State := { s with t0con := v }

/-- `s` with another `btcon`. -/
def State.setBtcon (s : State) (v : Byte) : State := { s with btcon := v }

/-- `s` with another `clkcon`. -/
def State.setClkcon (s : State) (v : Byte) : State := { s with clkcon := v }

/-- `s` with another `btcnt`. -/
def State.setBtcnt (s : State) (v : Byte) : State := { s with btcnt := v }

/-- `s` with another `regs`. -/
def State.setRegs (s : State) (v : Memory) : State := { s with regs := v }

/-- `s` with another `rom`. -/
def State.setRom (s : State) (v : Memory) : State := { s with rom := v }

/-- `s` with another `data`. -/
def State.setData (s : State) (v : Memory) : State := { s with data := v }

/-- `s` with another `pending`. -/
def State.setPending (s : State) (v : BitVec 22) : State := { s with pending := v }

/-- `s` with another `power`. -/
def State.setPower (s : State) (v : PowerMode) : State := { s with power := v }

/-- `s` with another `waiting`. -/
def State.setWaiting (s : State) (v : Bool) : State := { s with waiting := v }

/-- `s` with another `latency`. -/
def State.setLatency (s : State) (v : Bool) : State := { s with latency := v }

/-- `s` with another `events`. -/
def State.setEvents (s : State) (v : List PeriphWrite) : State := { s with events := v }

/-- `s` with another `env`. -/
def State.setEnv (s : State) (v : List (List EnvEvent)) : State := { s with env := v }

/-- `s` with another `tick`. -/
def State.setTick (s : State) (v : Nat) : State := { s with tick := v }

/-! ## Reset -/

/-- The machine right after reset (10_state.md R40; 70_reset_and_hazards.md R326), with the default launch parameters, nothing listed in
any memory and no input to come. The registers the spec gives no value for are 0 (log 3, log 4). -/
def State.reset : State where
  launch := Launch.default
  pc := Config.resetPc
  flags := 0x00#8
  flagsShadow := 0x00#8
  rp0 := 0xC0#8
  rp1 := 0xC8#8
  sph := 0x00#8
  spl := 0x00#8
  iph := 0x00#8
  ipl := 0x00#8
  imr := 0x00#8
  sym := 0x00#8
  pp := 0x00#8
  ipr := 0x00#8
  iprEpoch := 0
  t0cnt := 0x00#8
  t0data := 0xFF#8
  t0con := 0x00#8
  btcon := 0x00#8
  clkcon := 0x00#8
  btcnt := 0x00#8
  regs := []
  rom := []
  data := []
  pending := 0#22
  power := .run
  waiting := false
  latency := false
  events := []
  env := []
  tick := 0

end Sys2Proof.Machine
end

