-- ==== Sys2Proof/Machine/Bits.lean ====
section
/-! DEFINITION. Bits, bytes and words: byte order (20_memory.md R59), sign extension and single bits (00_scope.md R8). -/

namespace Sys2Proof.Machine

/-- `hi :: lo`. -/
def wordOf (hi lo : Byte) : Word := hi ++ lo

/-- `w[15:8]`. -/
def hiByte (w : Word) : Byte := w.extractLsb' 8 8

/-- `w[7:0]`. -/
def loByte (w : Word) : Byte := w.extractLsb' 0 8

/-- `sext_16`. -/
def sext16 (b : Byte) : Word := b.signExtend 16

/-- `zext_16`. -/
def zext16 (b : Byte) : Word := b.setWidth 16

/-- `b[n]`. -/
def bitAt (b : Byte) (n : Tri) : Bool := b.getLsbD n.toNat

/-- `b[n] <- v`: that bit replaced, the others kept (44_bit_manipulation.md R240). -/
def withBit (b : Byte) (n : Tri) (v : Bool) : Byte :=
  if v then b ||| (1#8 <<< n.toNat) else b &&& ~~~(1#8 <<< n.toNat)

/-- The latch of source n set or cleared; a number beyond the sources changes nothing. -/
def withLatch (p : BitVec 22) (n : Nat) (v : Bool) : BitVec 22 :=
  if v then p ||| (1#22 <<< n) else p &&& ~~~(1#22 <<< n)

end Sys2Proof.Machine
end

