-- ==== Sys2Proof/Syntax.lean ====
section
/-! DEFINITION. The instructions: one constructor per row of spec/opcode_table.json (30_encoding.md R86, R87, R90), named by the row's
mnemonic and operand classes (R82), its fields in the assembler's order (R91). Condition codes: R84. -/

namespace Sys2Proof

/-- The sixteen conditions of JP and JR (30_encoding.md R84). -/
inductive Cond where
  /-- 0000B, F: never. -/
  | f
  /-- 0001B, LT: S xor V = 1. -/
  | lt
  /-- 0010B, LE: Z or (S xor V) = 1. -/
  | le
  /-- 0011B, ULE: C or Z = 1. -/
  | ule
  /-- 0100B, OV: V = 1. -/
  | ov
  /-- 0101B, MI: S = 1. -/
  | mi
  /-- 0110B, Z, EQ: Z = 1. -/
  | z
  /-- 0111B, C, ULT: C = 1. -/
  | c
  /-- 1000B, T: always. -/
  | t
  /-- 1001B, GE: S xor V = 0. -/
  | ge
  /-- 1010B, GT: Z or (S xor V) = 0. -/
  | gt
  /-- 1011B, UGT: C = 0 and Z = 0. -/
  | ugt
  /-- 1100B, NOV: V = 0. -/
  | nov
  /-- 1101B, PL: S = 0. -/
  | pl
  /-- 1110B, NZ, NE: Z = 0. -/
  | nz
  /-- 1111B, NC, UGE: C = 0. -/
  | nc
  deriving DecidableEq, Repr

/-- The instructions. `dst`, `src`: a working register number (`Nibble`) or an 8-bit register address (`Byte`); `im`, `iml`:
immediates; `ra`: a relative displacement; `p`: half the number of a working register pair; `x`: in SRP, SRP0, SRP1 the operand bit
the operation ignores, in the indexed forms the base; `b`: a bit number. -/
inductive Instr where
  /-- ADD r,r: `00000010 ddddssss` (R160). -/
  | add_r_r (dst : Nibble) (src : Nibble)
  /-- ADD r,Ir: `00000011 ddddssss` (R160). -/
  | add_r_Ir (dst : Nibble) (src : Nibble)
  /-- ADD R,R: `00000100 ssssssss dddddddd` (R160). -/
  | add_R_R (dst : Byte) (src : Byte)
  /-- ADD R,IR: `00000101 ssssssss dddddddd` (R160). -/
  | add_R_IR (dst : Byte) (src : Byte)
  /-- ADD R,IM: `00000110 dddddddd iiiiiiii` (R160). -/
  | add_R_IM (dst : Byte) (im : Byte)
  /-- ADC r,r: `00010010 ddddssss` (R161). -/
  | adc_r_r (dst : Nibble) (src : Nibble)
  /-- ADC r,Ir: `00010011 ddddssss` (R161). -/
  | adc_r_Ir (dst : Nibble) (src : Nibble)
  /-- ADC R,R: `00010100 ssssssss dddddddd` (R161). -/
  | adc_R_R (dst : Byte) (src : Byte)
  /-- ADC R,IR: `00010101 ssssssss dddddddd` (R161). -/
  | adc_R_IR (dst : Byte) (src : Byte)
  /-- ADC R,IM: `00010110 dddddddd iiiiiiii` (R161). -/
  | adc_R_IM (dst : Byte) (im : Byte)
  /-- SUB r,r: `00100010 ddddssss` (R162). -/
  | sub_r_r (dst : Nibble) (src : Nibble)
  /-- SUB r,Ir: `00100011 ddddssss` (R162). -/
  | sub_r_Ir (dst : Nibble) (src : Nibble)
  /-- SUB R,R: `00100100 ssssssss dddddddd` (R162). -/
  | sub_R_R (dst : Byte) (src : Byte)
  /-- SUB R,IR: `00100101 ssssssss dddddddd` (R162). -/
  | sub_R_IR (dst : Byte) (src : Byte)
  /-- SUB R,IM: `00100110 dddddddd iiiiiiii` (R162). -/
  | sub_R_IM (dst : Byte) (im : Byte)
  /-- SBC r,r: `00110010 ddddssss` (R163). -/
  | sbc_r_r (dst : Nibble) (src : Nibble)
  /-- SBC r,Ir: `00110011 ddddssss` (R163). -/
  | sbc_r_Ir (dst : Nibble) (src : Nibble)
  /-- SBC R,R: `00110100 ssssssss dddddddd` (R163). -/
  | sbc_R_R (dst : Byte) (src : Byte)
  /-- SBC R,IR: `00110101 ssssssss dddddddd` (R163). -/
  | sbc_R_IR (dst : Byte) (src : Byte)
  /-- SBC R,IM: `00110110 dddddddd iiiiiiii` (R163). -/
  | sbc_R_IM (dst : Byte) (im : Byte)
  /-- OR r,r: `01000010 ddddssss` (R191). -/
  | or_r_r (dst : Nibble) (src : Nibble)
  /-- OR r,Ir: `01000011 ddddssss` (R191). -/
  | or_r_Ir (dst : Nibble) (src : Nibble)
  /-- OR R,R: `01000100 ssssssss dddddddd` (R191). -/
  | or_R_R (dst : Byte) (src : Byte)
  /-- OR R,IR: `01000101 ssssssss dddddddd` (R191). -/
  | or_R_IR (dst : Byte) (src : Byte)
  /-- OR R,IM: `01000110 dddddddd iiiiiiii` (R191). -/
  | or_R_IM (dst : Byte) (im : Byte)
  /-- AND r,r: `01010010 ddddssss` (R190). -/
  | and_r_r (dst : Nibble) (src : Nibble)
  /-- AND r,Ir: `01010011 ddddssss` (R190). -/
  | and_r_Ir (dst : Nibble) (src : Nibble)
  /-- AND R,R: `01010100 ssssssss dddddddd` (R190). -/
  | and_R_R (dst : Byte) (src : Byte)
  /-- AND R,IR: `01010101 ssssssss dddddddd` (R190). -/
  | and_R_IR (dst : Byte) (src : Byte)
  /-- AND R,IM: `01010110 dddddddd iiiiiiii` (R190). -/
  | and_R_IM (dst : Byte) (im : Byte)
  /-- TCM r,r: `01100010 ddddssss` (R238). -/
  | tcm_r_r (dst : Nibble) (src : Nibble)
  /-- TCM r,Ir: `01100011 ddddssss` (R238). -/
  | tcm_r_Ir (dst : Nibble) (src : Nibble)
  /-- TCM R,R: `01100100 ssssssss dddddddd` (R238). -/
  | tcm_R_R (dst : Byte) (src : Byte)
  /-- TCM R,IR: `01100101 ssssssss dddddddd` (R238). -/
  | tcm_R_IR (dst : Byte) (src : Byte)
  /-- TCM R,IM: `01100110 dddddddd iiiiiiii` (R238). -/
  | tcm_R_IM (dst : Byte) (im : Byte)
  /-- TM r,r: `01110010 ddddssss` (R239). -/
  | tm_r_r (dst : Nibble) (src : Nibble)
  /-- TM r,Ir: `01110011 ddddssss` (R239). -/
  | tm_r_Ir (dst : Nibble) (src : Nibble)
  /-- TM R,R: `01110100 ssssssss dddddddd` (R239). -/
  | tm_R_R (dst : Byte) (src : Byte)
  /-- TM R,IR: `01110101 ssssssss dddddddd` (R239). -/
  | tm_R_IR (dst : Byte) (src : Byte)
  /-- TM R,IM: `01110110 dddddddd iiiiiiii` (R239). -/
  | tm_R_IM (dst : Byte) (im : Byte)
  /-- CP r,r: `10100010 ddddssss` (R164). -/
  | cp_r_r (dst : Nibble) (src : Nibble)
  /-- CP r,Ir: `10100011 ddddssss` (R164). -/
  | cp_r_Ir (dst : Nibble) (src : Nibble)
  /-- CP R,R: `10100100 ssssssss dddddddd` (R164). -/
  | cp_R_R (dst : Byte) (src : Byte)
  /-- CP R,IR: `10100101 ssssssss dddddddd` (R164). -/
  | cp_R_IR (dst : Byte) (src : Byte)
  /-- CP R,IM: `10100110 dddddddd iiiiiiii` (R164). -/
  | cp_R_IM (dst : Byte) (im : Byte)
  /-- XOR r,r: `10110010 ddddssss` (R192). -/
  | xor_r_r (dst : Nibble) (src : Nibble)
  /-- XOR r,Ir: `10110011 ddddssss` (R192). -/
  | xor_r_Ir (dst : Nibble) (src : Nibble)
  /-- XOR R,R: `10110100 ssssssss dddddddd` (R192). -/
  | xor_R_R (dst : Byte) (src : Byte)
  /-- XOR R,IR: `10110101 ssssssss dddddddd` (R192). -/
  | xor_R_IR (dst : Byte) (src : Byte)
  /-- XOR R,IM: `10110110 dddddddd iiiiiiii` (R192). -/
  | xor_R_IM (dst : Byte) (im : Byte)
  /-- DEC R: `00000000 dddddddd` (R167). -/
  | dec_R (dst : Byte)
  /-- DEC IR: `00000001 dddddddd` (R167). -/
  | dec_IR (dst : Byte)
  /-- RLC R: `00010000 dddddddd` (R251). -/
  | rlc_R (dst : Byte)
  /-- RLC IR: `00010001 dddddddd` (R251). -/
  | rlc_IR (dst : Byte)
  /-- INC R: `00100000 dddddddd` (R166). -/
  | inc_R (dst : Byte)
  /-- INC IR: `00100001 dddddddd` (R166). -/
  | inc_IR (dst : Byte)
  /-- DA R: `01000000 dddddddd` (R165). -/
  | da_R (dst : Byte)
  /-- DA IR: `01000001 dddddddd` (R165). -/
  | da_IR (dst : Byte)
  /-- POP R: `01010000 dddddddd` (R145). -/
  | pop_R (dst : Byte)
  /-- POP IR: `01010001 dddddddd` (R145). -/
  | pop_IR (dst : Byte)
  /-- COM R: `01100000 dddddddd` (R193). -/
  | com_R (dst : Byte)
  /-- COM IR: `01100001 dddddddd` (R193). -/
  | com_IR (dst : Byte)
  /-- PUSH R: `01110000 dddddddd` (R148). -/
  | push_R (src : Byte)
  /-- PUSH IR: `01110001 dddddddd` (R148). -/
  | push_IR (src : Byte)
  /-- RL R: `10010000 dddddddd` (R250). -/
  | rl_R (dst : Byte)
  /-- RL IR: `10010001 dddddddd` (R250). -/
  | rl_IR (dst : Byte)
  /-- CLR R: `10110000 dddddddd` (R121). -/
  | clr_R (dst : Byte)
  /-- CLR IR: `10110001 dddddddd` (R121). -/
  | clr_IR (dst : Byte)
  /-- RRC R: `11000000 dddddddd` (R253). -/
  | rrc_R (dst : Byte)
  /-- RRC IR: `11000001 dddddddd` (R253). -/
  | rrc_IR (dst : Byte)
  /-- SRA R: `11010000 dddddddd` (R254). -/
  | sra_R (dst : Byte)
  /-- SRA IR: `11010001 dddddddd` (R254). -/
  | sra_IR (dst : Byte)
  /-- RR R: `11100000 dddddddd` (R252). -/
  | rr_R (dst : Byte)
  /-- RR IR: `11100001 dddddddd` (R252). -/
  | rr_IR (dst : Byte)
  /-- SWAP R: `11110000 dddddddd` (R255). -/
  | swap_R (dst : Byte)
  /-- SWAP IR: `11110001 dddddddd` (R255). -/
  | swap_IR (dst : Byte)
  /-- DECW RR: `10000000 ddddddd0` (R169). -/
  | decw_RR (dst : Byte)
  /-- DECW IR: `10000001 dddddddd` (R169). -/
  | decw_IR (dst : Byte)
  /-- INCW RR: `10100000 ddddddd0` (R168). -/
  | incw_RR (dst : Byte)
  /-- INCW IR: `10100001 dddddddd` (R168). -/
  | incw_IR (dst : Byte)
  /-- INC r: `dddd1110` (R166). -/
  | inc_r (dst : Nibble)
  /-- JP IRR: `00110000 ddddddd0` (R207). -/
  | jp_IRR (dst : Byte)
  /-- SRP IM: `00110001 iiiiix00` (R267). -/
  | srp_IM (im : BitVec 5) (x : BitVec 1)
  /-- SRP0 IM: `00110001 iiiiix10` (R268). -/
  | srp0_IM (im : BitVec 5) (x : BitVec 1)
  /-- SRP1 IM: `00110001 iiiiix01` (R269). -/
  | srp1_IM (im : BitVec 5) (x : BitVec 1)
  /-- PUSHUD IR,R: `10000010 dddddddd ssssssss` (R149). -/
  | pushud_IR_R (dst : Byte) (src : Byte)
  /-- PUSHUI IR,R: `10000011 dddddddd ssssssss` (R150). -/
  | pushui_IR_R (dst : Byte) (src : Byte)
  /-- POPUD R,IR: `10010010 ssssssss dddddddd` (R146). -/
  | popud_R_IR (dst : Byte) (src : Byte)
  /-- POPUI R,IR: `10010011 ssssssss dddddddd` (R147). -/
  | popui_R_IR (dst : Byte) (src : Byte)
  /-- CPIJE r,Ir,RA: `11000010 ssssdddd aaaaaaaa` (R204). -/
  | cpije_r_Ir_RA (dst : Nibble) (src : Nibble) (ra : Byte)
  /-- CPIJNE r,Ir,RA: `11010010 ssssdddd aaaaaaaa` (R205). -/
  | cpijne_r_Ir_RA (dst : Nibble) (src : Nibble) (ra : Byte)
  /-- LDC r,Irr: `11000011 ddddppp0` (R132). -/
  | ldc_r_Irr (dst : Nibble) (p : Tri)
  /-- LDE r,Irr: `11000011 ddddppp1` (R132). -/
  | lde_r_Irr (dst : Nibble) (p : Tri)
  /-- LDC Irr,r: `11010011 ssssppp0` (R133). -/
  | ldc_Irr_r (p : Tri) (src : Nibble)
  /-- LDE Irr,r: `11010011 ssssppp1` (R133). -/
  | lde_Irr_r (p : Tri) (src : Nibble)
  /-- LDCD r,Irr: `11100010 ddddppp0` (R140). -/
  | ldcd_r_Irr (dst : Nibble) (p : Tri)
  /-- LDED r,Irr: `11100010 ddddppp1` (R140). -/
  | lded_r_Irr (dst : Nibble) (p : Tri)
  /-- LDCI r,Irr: `11100011 ddddppp0` (R141). -/
  | ldci_r_Irr (dst : Nibble) (p : Tri)
  /-- LDEI r,Irr: `11100011 ddddppp1` (R141). -/
  | ldei_r_Irr (dst : Nibble) (p : Tri)
  /-- LDCPD Irr,r: `11110010 ssssppp0` (R142). -/
  | ldcpd_Irr_r (p : Tri) (src : Nibble)
  /-- LDEPD Irr,r: `11110010 ssssppp1` (R142). -/
  | ldepd_Irr_r (p : Tri) (src : Nibble)
  /-- LDCPI Irr,r: `11110011 ssssppp0` (R143). -/
  | ldcpi_Irr_r (p : Tri) (src : Nibble)
  /-- LDEPI Irr,r: `11110011 ssssppp1` (R143). -/
  | ldepi_Irr_r (p : Tri) (src : Nibble)
  /-- LDC r,XS[rr]: `11100111 ddddppp0 xxxxxxxx` (R134). -/
  | ldc_r_XS (dst : Nibble) (p : Tri) (xs : Byte)
  /-- LDE r,XS[rr]: `11100111 ddddppp1 xxxxxxxx` (R134). -/
  | lde_r_XS (dst : Nibble) (p : Tri) (xs : Byte)
  /-- LDC XS[rr],r: `11110111 ssssppp0 xxxxxxxx` (R135). -/
  | ldc_XS_r (p : Tri) (xs : Byte) (src : Nibble)
  /-- LDE XS[rr],r: `11110111 ssssppp1 xxxxxxxx` (R135). -/
  | lde_XS_r (p : Tri) (xs : Byte) (src : Nibble)
  /-- LDC r,XL[rr]: `10100111 ddddppp0 llllllll hhhhhhhh` (R136). -/
  | ldc_r_XL (dst : Nibble) (p : Tri) (xl : Word)
  /-- LDC XL[rr],r: `10110111 ssssppp0 llllllll hhhhhhhh` (R137). -/
  | ldc_XL_r (p : Tri) (xl : Word) (src : Nibble)
  /-- LDC r,DA: `10100111 dddd0000 llllllll hhhhhhhh` (R138). -/
  | ldc_r_DA (dst : Nibble) (da : Word)
  /-- LDC DA,r: `10110111 ssss0000 llllllll hhhhhhhh` (R139). -/
  | ldc_DA_r (da : Word) (src : Nibble)
  /-- LDE r,XL[rr]: `10100111 ddddppp1 llllllll hhhhhhhh` (R136). -/
  | lde_r_XL (dst : Nibble) (p : Tri) (xl : Word)
  /-- LDE XL[rr],r: `10110111 ssssppp1 llllllll hhhhhhhh` (R137). -/
  | lde_XL_r (p : Tri) (xl : Word) (src : Nibble)
  /-- LDE r,DA: `10100111 dddd0001 llllllll hhhhhhhh` (R138). -/
  | lde_r_DA (dst : Nibble) (da : Word)
  /-- LDE DA,r: `10110111 ssss0001 llllllll hhhhhhhh` (R139). -/
  | lde_DA_r (da : Word) (src : Nibble)
  /-- MULT RR,R: `10000100 ssssssss ddddddd0` (R170). -/
  | mult_RR_R (dst : Byte) (src : Byte)
  /-- MULT RR,IR: `10000101 ssssssss ddddddd0` (R170). -/
  | mult_RR_IR (dst : Byte) (src : Byte)
  /-- MULT RR,IM: `10000110 iiiiiiii ddddddd0` (R170). -/
  | mult_RR_IM (dst : Byte) (im : Byte)
  /-- DIV RR,R: `10010100 ssssssss ddddddd0` (R171). -/
  | div_RR_R (dst : Byte) (src : Byte)
  /-- DIV RR,IR: `10010101 ssssssss ddddddd0` (R171). -/
  | div_RR_IR (dst : Byte) (src : Byte)
  /-- DIV RR,IM: `10010110 iiiiiiii ddddddd0` (R171). -/
  | div_RR_IM (dst : Byte) (im : Byte)
  /-- LDW RR,RR: `11000100 sssssss0 ddddddd0` (R144). -/
  | ldw_RR_RR (dst : Byte) (src : Byte)
  /-- LDW RR,IR: `11000101 ssssssss ddddddd0` (R144). -/
  | ldw_RR_IR (dst : Byte) (src : Byte)
  /-- LDW RR,IML: `11000110 ddddddd0 hhhhhhhh llllllll` (R144). -/
  | ldw_RR_IML (dst : Byte) (iml : Word)
  /-- CALL IA: `11010100 aaaaaaa0` (R202). -/
  | call_IA (ia : Byte)
  /-- CALL IRR: `11110100 ddddddd0` (R202). -/
  | call_IRR (dst : Byte)
  /-- CALL DA: `11110110 hhhhhhhh llllllll` (R202). -/
  | call_DA (da : Word)
  /-- LD IR,IM: `11010110 dddddddd iiiiiiii` (R122). -/
  | ld_IR_IM (dst : Byte) (im : Byte)
  /-- LD R,R: `11100100 ssssssss dddddddd` (R122). -/
  | ld_R_R (dst : Byte) (src : Byte)
  /-- LD R,IR: `11100101 ssssssss dddddddd` (R122). -/
  | ld_R_IR (dst : Byte) (src : Byte)
  /-- LD R,IM: `11100110 dddddddd iiiiiiii` (R122). -/
  | ld_R_IM (dst : Byte) (im : Byte)
  /-- LD IR,R: `11110101 ssssssss dddddddd` (R122). -/
  | ld_IR_R (dst : Byte) (src : Byte)
  /-- LD r,x[r]: `10000111 ddddssss xxxxxxxx` (R122). -/
  | ld_r_X (dst : Nibble) (x : Byte) (idx : Nibble)
  /-- LD x[r],r: `10010111 ssssdddd xxxxxxxx` (R122). -/
  | ld_X_r (x : Byte) (idx : Nibble) (src : Nibble)
  /-- LD r,Ir: `11000111 ddddssss` (R122). -/
  | ld_r_Ir (dst : Nibble) (src : Nibble)
  /-- LD Ir,r: `11010111 ddddssss` (R122). -/
  | ld_Ir_r (dst : Nibble) (src : Nibble)
  /-- LD r,R: `dddd1000 ssssssss` (R122). -/
  | ld_r_R (dst : Nibble) (src : Byte)
  /-- LD R,r: `ssss1001 dddddddd` (R122). -/
  | ld_R_r (dst : Byte) (src : Nibble)
  /-- DJNZ r,RA: `rrrr1010 aaaaaaaa` (R206). -/
  | djnz_r_RA (n : Nibble) (ra : Byte)
  /-- JR cc,RA: `cccc1011 aaaaaaaa` (R211). -/
  | jr_cc_RA (cc : Cond) (ra : Byte)
  /-- LD r,IM: `dddd1100 iiiiiiii` (R122). -/
  | ld_r_IM (dst : Nibble) (im : Byte)
  /-- JP cc,DA: `cccc1101 hhhhhhhh llllllll` (R207). -/
  | jp_cc_DA (cc : Cond) (da : Word)
  /-- BOR r0,Rb: `00000111 ddddbbb0 ssssssss` (R231). -/
  | bor_r0_Rb (dst : Nibble) (src : Byte) (b : Tri)
  /-- BOR Rb,r0: `00000111 ssssbbb1 dddddddd` (R231). -/
  | bor_Rb_r0 (dst : Byte) (b : Tri) (src : Nibble)
  /-- BCP r0,Rb: `00010111 ddddbbb0 ssssssss` (R233). -/
  | bcp_r0_Rb (dst : Nibble) (src : Byte) (b : Tri)
  /-- BXOR r0,Rb: `00100111 ddddbbb0 ssssssss` (R232). -/
  | bxor_r0_Rb (dst : Nibble) (src : Byte) (b : Tri)
  /-- BXOR Rb,r0: `00100111 ssssbbb1 dddddddd` (R232). -/
  | bxor_Rb_r0 (dst : Byte) (b : Tri) (src : Nibble)
  /-- BTJRF RA,rb: `00110111 ssssbbb0 aaaaaaaa` (R200). -/
  | btjrf_RA_rb (ra : Byte) (src : Nibble) (b : Tri)
  /-- BTJRT RA,rb: `00110111 ssssbbb1 aaaaaaaa` (R201). -/
  | btjrt_RA_rb (ra : Byte) (src : Nibble) (b : Tri)
  /-- LDB r0,Rb: `01000111 ddddbbb0 ssssssss` (R236). -/
  | ldb_r0_Rb (dst : Nibble) (src : Byte) (b : Tri)
  /-- LDB Rb,r0: `01000111 ssssbbb1 dddddddd` (R236). -/
  | ldb_Rb_r0 (dst : Byte) (b : Tri) (src : Nibble)
  /-- BITC rb: `01010111 ddddbbb0` (R234). -/
  | bitc_rb (dst : Nibble) (b : Tri)
  /-- BAND r0,Rb: `01100111 ddddbbb0 ssssssss` (R230). -/
  | band_r0_Rb (dst : Nibble) (src : Byte) (b : Tri)
  /-- BAND Rb,r0: `01100111 ssssbbb1 dddddddd` (R230). -/
  | band_Rb_r0 (dst : Byte) (b : Tri) (src : Nibble)
  /-- BITR rb: `01110111 ddddbbb0` (R235). -/
  | bitr_rb (dst : Nibble) (b : Tri)
  /-- BITS rb: `01110111 ddddbbb1` (R237). -/
  | bits_rb (dst : Nibble) (b : Tri)
  /-- NEXT: `00001111` (R210). -/
  | next
  /-- ENTER: `00011111` (R208). -/
  | enter
  /-- EXIT: `00101111` (R209). -/
  | exit
  /-- WFI: `00111111` (R214). -/
  | wfi
  /-- SB0: `01001111` (R265). -/
  | sb0
  /-- SB1: `01011111` (R266). -/
  | sb1
  /-- IDLE: `01101111` (R270). -/
  | idle
  /-- STOP: `01111111` (R272). -/
  | stop
  /-- DI: `10001111` (R263). -/
  | di
  /-- EI: `10011111` (R264). -/
  | ei
  /-- RET: `10101111` (R212). -/
  | ret
  /-- IRET: `10111111` (R213). -/
  | iret
  /-- RCF: `11001111` (R261). -/
  | rcf
  /-- SCF: `11011111` (R262). -/
  | scf
  /-- CCF: `11101111` (R260). -/
  | ccf
  /-- NOP: `11111111` (R271). -/
  | nop
  deriving DecidableEq, Repr

end Sys2Proof
end

