-- ==== Sys2Proof/Machine/Flags.lean ====
section
/-! DEFINITION. The bits of FLAGS (10_state.md R22), the conditions (30_encoding.md R84), and every result with the flags it sets
(41_arithmetic.md, 42_logic.md, 44_bit_manipulation.md, 45_rotate_shift.md): pure functions of the operand bytes. -/

namespace Sys2Proof.Machine

/-- The eight flags (10_state.md R22). -/
inductive Flag where
  | c | z | s | v | d | h | fis | ba
  deriving DecidableEq, Repr

/-- The bit of FLAGS that holds a flag (R22). -/
def Flag.bit : Flag → Tri
  | .c => 7#3
  | .z => 6#3
  | .s => 5#3
  | .v => 4#3
  | .d => 3#3
  | .h => 2#3
  | .fis => 1#3
  | .ba => 0#3

/-- The value of a flag. -/
def State.flag (s : State) (f : Flag) : Bool := bitAt s.flags f.bit

/-- A flag written, the others kept. -/
def State.putFlag (s : State) (f : Flag) (b : Bool) : State := s.setFlags (withBit s.flags f.bit b)

/-- What an instruction does to the six condition flags: a new value, or unaffected (10_state.md R23). -/
structure FlagUpdate where
  c : Option Bool := none
  z : Option Bool := none
  s : Option Bool := none
  v : Option Bool := none
  d : Option Bool := none
  h : Option Bool := none
  deriving DecidableEq, Repr

/-- A flag written, or left as it is. -/
def State.putFlagOr (s : State) (f : Flag) : Option Bool → State
  | none => s
  | some b => s.putFlag f b

/-- The flags an instruction writes, written one by one; every other bit of FLAGS is kept (40_load.md R120). -/
def State.updateFlags (s : State) (u : FlagUpdate) : State :=
  (((((s.putFlagOr .c u.c).putFlagOr .z u.z).putFlagOr .s u.s).putFlagOr .v u.v).putFlagOr .d u.d).putFlagOr .h u.h

/-- A byte result with its flags. -/
structure AluResult where
  value : Byte
  flags : FlagUpdate
  deriving DecidableEq, Repr

/-- A register-pair result with its flags. -/
structure PairResult where
  high : Byte
  low : Byte
  flags : FlagUpdate
  deriving DecidableEq, Repr

/-! ## Conditions -/

/-- Whether a condition holds of a value of FLAGS (30_encoding.md R84). -/
def condHolds (flags : Byte) (cc : Cond) : Bool :=
  let c := bitAt flags Flag.c.bit
  let z := bitAt flags Flag.z.bit
  let s := bitAt flags Flag.s.bit
  let v := bitAt flags Flag.v.bit
  match cc with
  | .f => false
  | .lt => s ^^ v
  | .le => z || (s ^^ v)
  | .ule => c || z
  | .ov => v
  | .mi => s
  | .z => z
  | .c => c
  | .t => true
  | .ge => !(s ^^ v)
  | .gt => !(z || (s ^^ v))
  | .ugt => !c && !z
  | .nov => !v
  | .pl => !s
  | .nz => !z
  | .nc => !c

/-! ## Addition and subtraction -/

/-- ADD (cin false) and ADC (cin the carry before) (41_arithmetic.md R160, R161). -/
def addResult (cin : Bool) (a b : Byte) : AluResult :=
  let t : BitVec 9 := a.setWidth 9 + b.setWidth 9 + (BitVec.ofBool cin).setWidth 9
  let res : Byte := t.setWidth 8
  { value := res
    flags :=
      { c := some (t.getLsbD 8)
        z := some (res == 0#8)
        s := some res.msb
        v := some (a.msb == b.msb && res.msb != a.msb)
        d := some false
        h := some (decide ((a &&& 0x0F#8).toNat + (b &&& 0x0F#8).toNat + cin.toNat > 0x0F)) } }

/-- SUB (cin false) and SBC (cin the borrow before) (41_arithmetic.md R162, R163). -/
def subResult (cin : Bool) (a b : Byte) : AluResult :=
  let res : Byte := a - b - (BitVec.ofBool cin).setWidth 8
  { value := res
    flags :=
      { c := some (decide (a.toNat < b.toNat + cin.toNat))
        z := some (res == 0#8)
        s := some res.msb
        v := some (a.msb != b.msb && res.msb == b.msb)
        d := some true
        h := some (decide ((a &&& 0x0F#8).toNat < (b &&& 0x0F#8).toNat + cin.toNat)) } }

/-- CP: the C, Z, S, V of SUB; D and H unaffected (41_arithmetic.md R164). -/
def compareFlags (a b : Byte) : FlagUpdate :=
  let u := (subResult false a b).flags
  { c := u.c, z := u.z, s := u.s, v := u.v }

/-- INC (41_arithmetic.md R166). -/
def incResult (a : Byte) : AluResult :=
  let res := a + 1#8
  { value := res, flags := { z := some (res == 0#8), s := some res.msb, v := some (a == 0x7F#8) } }

/-- DEC (41_arithmetic.md R167). -/
def decResult (a : Byte) : AluResult :=
  let res := a - 1#8
  { value := res, flags := { z := some (res == 0#8), s := some res.msb, v := some (a == 0x80#8) } }

/-- INCW; Z is drawn (41_arithmetic.md R168; D18, log 10). -/
def incwResult (z : Bool) (w : Word) : PairResult :=
  let res := w + 1#16
  { high := hiByte res, low := loByte res, flags := { z := some z, s := some res.msb, v := some (w == 0x7FFF#16) } }

/-- DECW; Z is drawn (41_arithmetic.md R169; D18, log 10). -/
def decwResult (z : Bool) (w : Word) : PairResult :=
  let res := w - 1#16
  { high := hiByte res, low := loByte res, flags := { z := some z, s := some res.msb, v := some (w == 0x8000#16) } }

/-! ## Decimal adjust -/

/-- A row of the table of DA (41_arithmetic.md R165): D, C and H before, the ranges of the two nibbles, what is added, C after. -/
structure DecimalRow where
  d : Bool
  c : Bool
  highMin : Nat
  highMax : Nat
  h : Bool
  lowMin : Nat
  lowMax : Nat
  added : Byte
  cAfter : Bool
  deriving DecidableEq, Repr

/-- The table of DA, row by row (41_arithmetic.md R165). -/
def decimalTable : List DecimalRow :=
  [ ⟨false, false, 0x0, 0x9, false, 0x0, 0x9, 0x00#8, false⟩,
    ⟨false, false, 0x0, 0x8, false, 0xA, 0xF, 0x06#8, false⟩,
    ⟨false, false, 0x0, 0x9, true, 0x0, 0x3, 0x06#8, false⟩,
    ⟨false, false, 0xA, 0xF, false, 0x0, 0x9, 0x60#8, true⟩,
    ⟨false, false, 0x9, 0xF, false, 0xA, 0xF, 0x66#8, true⟩,
    ⟨false, false, 0xA, 0xF, true, 0x0, 0x3, 0x66#8, true⟩,
    ⟨false, true, 0x0, 0x2, false, 0x0, 0x9, 0x60#8, true⟩,
    ⟨false, true, 0x0, 0x2, false, 0xA, 0xF, 0x66#8, true⟩,
    ⟨false, true, 0x0, 0x3, true, 0x0, 0x3, 0x66#8, true⟩,
    ⟨true, false, 0x0, 0x9, false, 0x0, 0x9, 0x00#8, false⟩,
    ⟨true, false, 0x0, 0x8, true, 0x6, 0xF, 0xFA#8, false⟩,
    ⟨true, true, 0x7, 0xF, false, 0x0, 0x9, 0xA0#8, true⟩,
    ⟨true, true, 0x6, 0xF, true, 0x6, 0xF, 0x9A#8, true⟩ ]

/-- Whether the flags and the operand are those of a row. -/
def DecimalRow.covers (r : DecimalRow) (d c h : Bool) (a : Byte) : Bool :=
  let hi := a.toNat / 16
  let lo := a.toNat % 16
  r.d == d && r.c == c && r.h == h && decide (r.highMin ≤ hi ∧ hi ≤ r.highMax) && decide (r.lowMin ≤ lo ∧ lo ≤ r.lowMax)

/-- What a decimal adjustment needs from the free values: the result and C outside the table, and V. -/
structure DecimalDraws where
  result : Byte
  carry : Bool
  overflow : Bool
  deriving DecidableEq, Repr

/-- DA (41_arithmetic.md R165): by the table; outside it the result and C are drawn, Z and S follow the result (D21, log 11). V is
drawn in every case (D19, log 9). -/
def decimalResult (d c h : Bool) (draws : DecimalDraws) (a : Byte) : AluResult :=
  let out : Byte × Bool :=
    match decimalTable.find? (fun r => r.covers d c h a) with
    | some r => (a + r.added, r.cAfter)
    | none => (draws.result, draws.carry)
  { value := out.1
    flags := { c := some out.2, z := some (out.1 == 0#8), s := some out.1.msb, v := some draws.overflow } }

/-! ## Multiplication and division -/

/-- MULT: unsigned 8 by 8 (41_arithmetic.md R170). -/
def multResult (m n : Byte) : PairResult :=
  let p : Word := m.setWidth 16 * n.setWidth 16
  { high := hiByte p
    low := loByte p
    flags := { c := some (decide (p.toNat > 0xFF)), z := some (p == 0#16), s := some p.msb, v := some false } }

/-- The free values of a division whose result is not stated (41_arithmetic.md R171; U14). -/
structure DivideDraws where
  high : Byte
  low : Byte
  carry : Bool
  sign : Bool
  deriving DecidableEq, Repr

/-- Whether the result of a division is stated: the divisor is not 0 and the quotient fits a byte (41_arithmetic.md R171). -/
def divideFits (n : Word) (d : Byte) : Bool := d != 0#8 && decide (n.toNat / d.toNat ≤ 0xFF)

/-- DIV: unsigned 16 by 8 (41_arithmetic.md R171); remainder high, quotient low. -/
def divideResult (draws : DivideDraws) (n : Word) (d : Byte) : PairResult :=
  let q := n.toNat / d.toNat
  let m := n.toNat % d.toNat
  if d = 0#8 then
    { high := draws.high
      low := draws.low
      flags := { v := some true, z := some true, c := some draws.carry, s := some draws.sign } }
  else if q > 0xFF then
    { high := draws.high
      low := draws.low
      flags := { v := some true, z := some false, c := some (decide (q ≤ 0x1FF)), s := some draws.sign } }
  else
    { high := BitVec.ofNat 8 m
      low := BitVec.ofNat 8 q
      flags := { v := some false, c := some false, z := some (q == 0), s := some (BitVec.ofNat 8 q).msb } }

/-! ## Logic and tests -/

/-- The flags of a logical result: Z, S and V = 0 (42_logic.md R190 to R193; 44_bit_manipulation.md R238, R239). -/
def logicFlags (res : Byte) : FlagUpdate := { z := some (res == 0#8), s := some res.msb, v := some false }

/-- A logical result with its flags. -/
def logicResult (res : Byte) : AluResult := { value := res, flags := logicFlags res }

/-- The flags of a one-bit result: Z from the bit, S = 0, V drawn (44_bit_manipulation.md R240; D19, log 9). -/
def bitFlags (overflow : Bool) (b : Bool) : FlagUpdate := { z := some (!b), s := some false, v := some overflow }

/-! ## Rotates and shifts -/

/-- A rotate's result: C the bit rotated out, V set where the sign changed (45_rotate_shift.md R256). -/
def rotateResult (a res : Byte) (out : Bool) : AluResult :=
  { value := res, flags := { c := some out, z := some (res == 0#8), s := some res.msb, v := some (res.msb != a.msb) } }

/-- RL (R250). -/
def rlResult (a : Byte) : AluResult := rotateResult a (a.extractLsb' 0 7 ++ a.extractLsb' 7 1) (bitAt a 7#3)

/-- RLC (R251); c is the carry before. -/
def rlcResult (c : Bool) (a : Byte) : AluResult := rotateResult a (a.extractLsb' 0 7 ++ BitVec.ofBool c) (bitAt a 7#3)

/-- RR (R252). -/
def rrResult (a : Byte) : AluResult := rotateResult a (a.extractLsb' 0 1 ++ a.extractLsb' 1 7) (bitAt a 0#3)

/-- RRC (R253); c is the carry before. -/
def rrcResult (c : Bool) (a : Byte) : AluResult := rotateResult a (BitVec.ofBool c ++ a.extractLsb' 1 7) (bitAt a 0#3)

/-- SRA (R254): bit 7 kept, V = 0. -/
def sraResult (a : Byte) : AluResult :=
  let res : Byte := a.extractLsb' 7 1 ++ a.extractLsb' 1 7
  { value := res, flags := { c := some (bitAt a 0#3), z := some (res == 0#8), s := some res.msb, v := some false } }

/-- SWAP (R255); C and V are drawn (D19, log 9). -/
def swapResult (carry overflow : Bool) (a : Byte) : AluResult :=
  let res : Byte := a.extractLsb' 0 4 ++ a.extractLsb' 4 4
  { value := res, flags := { c := some carry, z := some (res == 0#8), s := some res.msb, v := some overflow } }

end Sys2Proof.Machine
end

