-- ==== Sys2Proof/Machine/Memory.lean ====
section
/-! DEFINITION. Memory as a list of cells in one canonical form: addresses strictly rising, no entry equal to what an unlisted address
reads as. -/

namespace Sys2Proof.Machine

/-- The three memories of the state. -/
inductive Space where
  /-- `State.regs`: `Prime`, `Set2`, `Common`, and the bytes last written to `Bank`. -/
  | registers
  /-- `State.rom`. -/
  | program
  /-- `State.data`. -/
  | external
  deriving DecidableEq, Repr

/-- What an unlisted address reads as: an unprogrammed byte of program memory is FFH (46_cpu_control.md R271; log 2); the others read
00H, where the spec gives no value (DESIGN CHOICE, log 3). -/
def Space.fill : Space → Byte
  | .registers => 0x00#8
  | .program => 0xFF#8
  | .external => 0x00#8

/-- The byte at address a. -/
def Memory.read (sp : Space) : Memory → Nat → Byte
  | [], _ => sp.fill
  | (k, w) :: m, a => if a = k then w else Memory.read sp m a

/-- The memory with v at address a, in canonical form again. -/
def Memory.write (sp : Space) : Memory → Nat → Byte → Memory
  | [], a, v => if v = sp.fill then [] else [(a, v)]
  | (k, w) :: m, a, v =>
    if a < k then (if v = sp.fill then (k, w) :: m else (a, v) :: (k, w) :: m)
    else if a = k then (if v = sp.fill then m else (a, v) :: m)
    else (k, w) :: Memory.write sp m a v

/-- The canonical form. -/
def Memory.wf (sp : Space) : Memory → Bool
  | [] => true
  | (k, w) :: m => w != sp.fill && m.all (fun c => decide (k < c.1)) && Memory.wf sp m

/-- Whether every listed address is below n: the extent of the space. -/
def Memory.within (n : Nat) (m : Memory) : Bool := m.all (fun c => decide (c.1 < n))

end Sys2Proof.Machine
end

