-- ==== Sys2Proof/Machine/Ops.lean ====
section
/-! DEFINITION. The named operations over the register file, program and data memory, the stack, and the interrupt enable; taking an
interrupt and returning from one (60_exceptions.md R293, R298; 43_program_control.md R213). -/

namespace Sys2Proof.Machine

/-! ## Free values -/

/-- A free byte of this step (00_scope.md R8, `draw`; log 8). -/
def State.drawByte (s : State) (slot : Config.DrawSlot) : Byte := Config.draw slot s.tick

/-- A free bit of this step. -/
def State.drawBit (s : State) (slot : Config.DrawSlot) : Bool := (s.drawByte slot).getLsbD 0

/-! ## Fields of the control registers -/

/-- SYM.0, the global interrupt enable (10_state.md R28). -/
def State.ie (s : State) : Bool := bitAt s.sym 0#3

/-- SYM.0 written, the rest of SYM kept. -/
def State.putIe (s : State) (v : Bool) : State := s.setSym (withBit s.sym 0#3 v)

/-- SYM.1, FIE (R28). -/
def State.fie (s : State) : Bool := bitAt s.sym 1#3

/-- SYM[4:2], FIL (R28). -/
def State.fil (s : State) : Tri := s.sym.extractLsb' 2 3

/-- The source page, PP[3:0] (10_state.md R14, R32). -/
def State.srcPage (s : State) : Nibble := s.pp.extractLsb' 0 4

/-- The destination page, PP[7:4] (10_state.md R14, R32). -/
def State.dstPage (s : State) : Nibble := s.pp.extractLsb' 4 4

/-- IP = IPH :: IPL (10_state.md R25). -/
def State.ip (s : State) : Word := wordOf s.iph s.ipl

/-- IP written. -/
def State.putIp (s : State) (w : Word) : State := (s.setIph (hiByte w)).setIpl (loByte w)

/-! ## What a place holds -/

/-- The number of a place: the address in `State.regs` of the places stored there, and the register's number for volatile reads. The
pages take 0 to 0FFFH, `Common` from 10C0H, `Bank[0]` from 1100H, `Bank[1]` from 1120H, `Sys` from 2000H. -/
def Loc.key : Loc → Nat
  | .ram p a => p.toNat * 256 + a.toNat
  | .common n => 0x10C0 + n.toNat
  | .bank false n => 0x1100 + n.toNat
  | .bank true n => 0x1120 + n.toNat
  | .ipr => 0x1140
  | .sys r => 0x2000 + r.ctorIdx

/-- The first address of `State.regs` that belongs to a peripheral register. -/
def bankBase : Nat := 0x1100

/-- The byte a system control register holds. IRQ holds none: it is computed (`State.irq`). -/
def State.storedSys (s : State) : SysReg → Byte
  | .t0cnt => s.t0cnt
  | .t0data => s.t0data
  | .t0con => s.t0con
  | .btcon => s.btcon
  | .clkcon => s.clkcon
  | .flags => s.flags
  | .rp0 => s.rp0
  | .rp1 => s.rp1
  | .sph => s.sph
  | .spl => s.spl
  | .iph => s.iph
  | .ipl => s.ipl
  | .irq => 0x00#8
  | .imr => s.imr
  | .sym => s.sym
  | .pp => s.pp

/-- The byte a place holds: for a peripheral register, the byte last written. -/
def State.stored (s : State) : Loc → Byte
  | .sys r => s.storedSys r
  | .ipr => s.ipr
  | .ram p a => s.regs.read .registers (Loc.ram p a).key
  | .common n => s.regs.read .registers (Loc.common n).key
  | .bank b n => s.regs.read .registers (Loc.bank b n).key

/-! ## Interrupt requests -/

/-- A source's enable bit, as last written (60_exceptions.md R285, R289). -/
def State.sourceEnabled (s : State) (src : Source) : Bool := bitAt (s.stored src.enable.reg) src.enable.bit

/-- A source's latch is set and the source is enabled: what IRQ shows (60_exceptions.md R289; 10_state.md R30). -/
def State.requested (s : State) (n : Nat) (src : Source) : Bool := s.pending.getLsbD n && s.sourceEnabled src

/-- The levels of the sources from number n on that have a request. -/
def State.requestLevels (s : State) : Nat → List Source → Byte
  | _, [] => 0x00#8
  | n, src :: rest =>
    let others := s.requestLevels (n + 1) rest
    if s.requested n src then others ||| (1#8 <<< src.level.toNat) else others

/-- IRQ (10_state.md R30): bit n is 1 while some source of level n has a request. -/
def State.irq (s : State) : Byte := s.requestLevels 0 s.launch.vectorMap

/-! ## Reading a place -/

/-- The volatile places (20_memory.md R62): D0H to D4H, IRQ, and both banks, IPR among them (R35). The environment answers their reads,
that of IRQ through the latches it sets (10_state.md R30, log 18), and their writes are events. -/
def Loc.isVolatile : Loc → Bool
  | .sys .t0cnt => true
  | .sys .t0data => true
  | .sys .t0con => true
  | .sys .btcon => true
  | .sys .clkcon => true
  | .sys .irq => true
  | .bank _ _ => true
  | .ipr => true
  | _ => false

/-- The places `PERIPHERAL_MAP` speaks of (92 "Open parameters"): E0H to FFH of both banks and D0H to D2H. -/
def Loc.isMapped : Loc → Bool
  | .sys .t0cnt => true
  | .sys .t0data => true
  | .sys .t0con => true
  | .bank _ _ => true
  | _ => false

/-- The environment's answer to a read of a volatile place during this instruction (20_memory.md R62; log 17). -/
def State.volatileByte (s : State) (l : Loc) : Byte := Config.volatileRead l.key s.tick (s.stored l)

/-- The byte an instruction reads from a place. BTCON bits 1, 0 read as 0 (10_state.md R33); SYM bits 7..5 read any value (U17). -/
def State.look (s : State) (l : Loc) : Byte :=
  match l with
  | .sys .irq => s.irq
  | .sys .btcon => s.volatileByte l &&& 0xFC#8
  | .sys .sym => (s.sym &&& 0x1F#8) ||| (s.drawByte .symUnused &&& 0xE0#8)
  | _ => if l.isVolatile then s.volatileByte l else s.stored l

/-- Why a place cannot be accessed: an absent page (10_state.md R32; U7) or an unimplemented peripheral register (R35; U7). -/
def State.accessStop (s : State) (l : Loc) : Option Refusal :=
  match l with
  | .ram p _ => if p.toNat < s.launch.nPages then none else some .pageAbsent
  | _ => if l.isMapped && s.launch.absent.contains l then some .unimplementedRegister else none

/-- Reads a place. -/
def State.readLoc (s : State) (l : Loc) : Res Byte :=
  match s.accessStop l with
  | some r => .error (.refusal r)
  | none => .ok (s.look l)

/-! ## Writing a place -/

/-- A byte written to `State.regs`. -/
def State.putRegs (s : State) (l : Loc) (v : Byte) : State := s.setRegs (s.regs.write .registers l.key v)

/-- The latches after a write of v to the register l: a software-cleared source whose pending bit lies there gets the latch its
peripheral gives it (60_exceptions.md R291; log 20); every other latch is kept. -/
def latchesAfterWrite (l : Loc) (v : Byte) : Nat → List Source → BitVec 22 → BitVec 22
  | _, [], p => p
  | n, src :: rest, p =>
    latchesAfterWrite l v (n + 1) rest
      (if !src.hardwareClear && src.pendingBit.reg == l then withLatch p n (Config.pendingAfterWrite n (p.getLsbD n) v) else p)

/-- The event of a write to a volatile register (20_memory.md R62). -/
def State.recordEvent (s : State) (l : Loc) (v : Byte) : State := s.setEvents ({ loc := l, value := v } :: s.events)

/-- The event of a write to a peripheral register, and what the write does to the latches. -/
def State.recordWrite (s : State) (l : Loc) (v : Byte) : State :=
  { s with
    events := { loc := l, value := v } :: s.events
    pending := latchesAfterWrite l v 0 s.launch.vectorMap s.pending }

/-- What a software write leaves in FLAGS: the byte written, but where it would change FIS that bit is free (10_state.md R22; U12,
log 13). -/
def State.writtenFlags (s : State) (v : Byte) : Byte :=
  if bitAt v Flag.fis.bit = s.flag .fis then v else withBit v Flag.fis.bit (s.drawBit .fastStatus)

/-- The effect of a write to BTCON: bits 7..2 kept, BTCNT cleared where bit 1 is 1 (10_state.md R33). -/
def State.pokeBtcon (s : State) (v : Byte) : State :=
  { s with btcon := v &&& 0xFC#8, btcnt := if bitAt v 1#3 then 0x00#8 else s.btcnt }.recordWrite (.sys .btcon) v

/-- The effect of a write to IPR (10_state.md R31): a new order of the levels, named by the tick where it is open (U9). -/
def State.pokeIpr (s : State) (v : Byte) : State :=
  { s with ipr := v, iprEpoch := s.tick, latency := true }.recordWrite .ipr v

/-- The effect of a write to a system control register; of a write to IRQ only the event (10_state.md R30). -/
def State.pokeSys (s : State) (r : SysReg) (v : Byte) : State :=
  match r with
  | .t0cnt => s.recordWrite (.sys .t0cnt) v
  | .t0data => (s.setT0data v).recordWrite (.sys .t0data) v
  | .t0con => (s.setT0con v).recordWrite (.sys .t0con) v
  | .btcon => s.pokeBtcon v
  | .clkcon => (s.setClkcon (v &&& 0x98#8)).recordWrite (.sys .clkcon) v
  | .flags => s.setFlags (s.writtenFlags v)
  | .rp0 => s.setRp0 (v &&& 0xF8#8)
  | .rp1 => s.setRp1 (v &&& 0xF8#8)
  | .sph => s.setSph v
  | .spl => s.setSpl v
  | .iph => s.setIph v
  | .ipl => s.setIpl v
  | .irq => s.recordEvent (.sys .irq) v
  | .imr => (s.setImr v).setLatency true
  | .sym => (s.setSym (v &&& 0x1F#8)).setLatency true
  | .pp => s.setPp v

/-- The effect of a write to a place. -/
def State.poke (s : State) (l : Loc) (v : Byte) : State :=
  match l with
  | .sys r => s.pokeSys r v
  | .ipr => s.pokeIpr v
  | .ram p a => s.putRegs (.ram p a) v
  | .common n => s.putRegs (.common n) v
  | .bank b n => (s.putRegs (.bank b n) v).recordWrite (.bank b n) v

/-- Whether both page numbers of a value of PP exist (10_state.md R32; U10). -/
def State.pagesExist (s : State) (v : Byte) : Bool :=
  decide ((v.extractLsb' 0 4).toNat < s.launch.nPages) && decide ((v.extractLsb' 4 4).toNat < s.launch.nPages)

/-- Why a byte cannot be written to a place. -/
def State.writeStop (s : State) (l : Loc) (v : Byte) : Option Refusal :=
  match l with
  | .sys .imr => if s.ie then some .maskWriteWhileEnabled else none
  | .sys .pp => if s.pagesExist v then none else some .pageSelect
  | _ => s.accessStop l

/-- Writes a place. -/
def State.writeLoc (s : State) (l : Loc) (v : Byte) : Res State :=
  match s.writeStop l v with
  | some r => .error (.refusal r)
  | none => .ok (s.poke l v)

/-! ## Program and data memory -/

/-- `ProgRead` (20_memory.md R54). -/
def State.progRead (s : State) (a : Word) : Res Byte :=
  if a.toNat ≤ s.launch.part.romTop then .ok (s.rom.read .program a.toNat) else .error (.fault .progAddressOutOfRange)

/-- `ProgRead16`: high byte first (43_program_control.md, ENTER, EXIT, NEXT; 20_memory.md R59). -/
def State.progRead16 (s : State) (a : Word) : Res Word := do
  let hi ← s.progRead a
  let lo ← s.progRead (a + 1#16)
  return wordOf hi lo

/-- `DataRead` (20_memory.md R57). -/
def State.dataRead (s : State) (a : Word) : Res Byte :=
  if s.launch.hasExtDataMem then .ok (s.data.read .external a.toNat) else .error (.refusal .noDataMemory)

/-- `DataWrite` (20_memory.md R57). -/
def State.dataWrite (s : State) (a : Word) (v : Byte) : Res State :=
  if s.launch.hasExtDataMem then .ok (s.setData (s.data.write .external a.toNat v)) else .error (.refusal .noDataMemory)

/-! ## The system stack -/

/-- `push8` (00_scope.md R8; 10_state.md R24). -/
def State.push8 (s : State) (v : Byte) : Res State :=
  (s.setSpl (s.spl - 1#8)).writeLoc (.ram s.dstPage (s.spl - 1#8)) v

/-- `pop8` (00_scope.md R8; 10_state.md R24). -/
def State.pop8 (s : State) : Res (Byte × State) := do
  let v ← s.readLoc (.ram s.srcPage s.spl)
  return (v, s.setSpl (s.spl + 1#8))

/-- A 16-bit push: low byte first, so that the high byte lies at the lower address (20_memory.md R59). -/
def State.push16 (s : State) (w : Word) : Res State := do
  let s1 ← s.push8 (loByte w)
  s1.push8 (hiByte w)

/-- A 16-bit pop: high byte first. -/
def State.pop16 (s : State) : Res (Word × State) := do
  let (hi, s1) ← s.pop8
  let (lo, s2) ← s1.pop8
  return (wordOf hi lo, s2)

/-! ## Taking an interrupt, and returning from one -/

/-- Normal interrupt entry (60_exceptions.md R293): SYM.0 cleared, PC low, PC high and FLAGS pushed, a hardware-cleared latch
cleared, PC from the vector. A vector at an odd address is refused (U5). -/
def State.normalEntry (s : State) (n : Nat) (src : Source) : Res State := do
  let s1 ← (s.putIe false).push16 s.pc
  let s2 ← s1.push8 s.flags
  let s3 := if src.hardwareClear then s2.setPending (withLatch s2.pending n false) else s2
  if bitAt src.vector 0#3 then .error (.refusal .oddVector)
  else do
    let target ← s3.progRead16 (zext16 src.vector)
    return s3.setPc target

/-- Fast interrupt entry (60_exceptions.md R298): PC and IP exchanged, FLAGS kept in FLAGS', FIS set. Whether SYM.0 stays set and
whether the latch stays set are free (log 14). -/
def State.fastEntry (s : State) (n : Nat) : State :=
  let s1 := (s.setPc s.ip).putIp s.pc
  let s2 := (s1.setFlagsShadow s.flags).putFlag .fis true
  let s3 := s2.putIe (s.ie && s.drawBit .fastEntryEnable)
  s3.setPending (withLatch s.pending n (s.pending.getLsbD n && s.drawBit .fastEntryLatch))

/-- Whether a source is served by the fast mechanism (60_exceptions.md R298). -/
def State.isFast (s : State) (src : Source) : Bool := s.fie && src.level == s.fil

/-- Takes the interrupt of a source: the one operation of interrupt entry. -/
def State.takeInterrupt (s : State) (n : Nat) (src : Source) : Res State :=
  if s.isFast src then .ok (s.fastEntry n) else s.normalEntry n src

/-- Return from interrupt (43_program_control.md R213), by FIS: a normal return pops FLAGS, PC high and PC low and sets SYM.0; a fast
return exchanges PC and IP and restores FLAGS from FLAGS'. Whether a fast return sets SYM.0 is free (60_exceptions.md R299, log 14). -/
def State.returnFromInterrupt (s : State) : Res State :=
  if s.flag .fis then
    let s1 := (s.setPc s.ip).putIp s.pc
    let s2 := (s1.setFlags s.flagsShadow).putFlag .fis false
    .ok ((s2.putIe (s.ie || s.drawBit .fastReturnEnable)).setLatency true)
  else do
    let (f, s1) ← s.pop8
    let (target, s2) ← (s1.setFlags f).pop16
    return ((s2.setPc target).putIe true).setLatency true

end Sys2Proof.Machine
end

