-- ==== Sys2Proof/Machine/Operands.lean ====
section
/-! DEFINITION. The operand classes (30_encoding.md R82): working registers (10_state.md R13), register addressing (R14), computed
addresses (R15), register pairs (R16), memory addresses; and the instruction shapes built from them, each said once: two operands
(41_arithmetic.md R172), one operand (45_rotate_shift.md R256), register pairs, one bit (44_bit_manipulation.md R240), relative jumps.

Every place is found in the state before the instruction writes anything: a write to RP0, RP1, FLAGS or PP moves places from the next
instruction on (40_load.md R120; log 30). -/

namespace Sys2Proof.Machine

/-- The outcome of a meaning. -/
def finish : Res State → Host.Outcome State Fault Refusal
  | .ok s => .next s
  | .error (.fault f) => .fault f
  | .error (.refusal r) => .refused r

/-! ## Places -/

/-- The system control register at D0H + n (10_state.md R26). -/
def SysReg.ofNibble (n : Nibble) : SysReg :=
  match n.toNat with
  | 0x0 => .t0cnt | 0x1 => .t0data | 0x2 => .t0con | 0x3 => .btcon
  | 0x4 => .clkcon | 0x5 => .flags | 0x6 => .rp0 | 0x7 => .rp1
  | 0x8 => .sph | 0x9 => .spl | 0xA => .iph | 0xB => .ipl
  | 0xC => .irq | 0xD => .imr | 0xE => .sym | _ => .pp

/-- `wr_addr(n)` (10_state.md R13). -/
def State.workAddr (s : State) (n : Nibble) : Byte :=
  (if n.getLsbD 3 then s.rp1 else s.rp0).extractLsb' 3 5 ++ n.extractLsb' 0 3

/-- `Phys1[a]` (10_state.md R14). -/
def State.physLoc (s : State) (page : Nibble) (a : Byte) : Loc :=
  if a.toNat < 0xC0 then .ram page a
  else if a.toNat < 0xD0 then .common (a.extractLsb' 0 4)
  else if a.toNat < 0xE0 then .sys (SysReg.ofNibble (a.extractLsb' 0 4))
  else if a = 0xFF#8 ∧ s.flag .ba = false then .ipr
  else .bank (s.flag .ba) (a.extractLsb' 0 5)

/-- `r[n]` (10_state.md R13). -/
def State.workLoc (s : State) (page : Nibble) (n : Nibble) : Loc := s.physLoc page (s.workAddr n)

/-- `Reg[a]` (10_state.md R14): C0H to CFH is the working-register escape. -/
def State.regLoc (s : State) (page : Nibble) (a : Byte) : Loc :=
  if a.extractLsb' 4 4 = 0xC#4 then s.workLoc page (a.extractLsb' 0 4) else s.physLoc page a

/-- `r[n]` as a destination. -/
def State.dstWork (s : State) (n : Nibble) : Loc := s.workLoc s.dstPage n

/-- `Reg[a]` as a destination. -/
def State.dstReg (s : State) (a : Byte) : Loc := s.regLoc s.dstPage a

/-- `RegI[a]` as a destination (10_state.md R15). -/
def State.dstInd (s : State) (a : Byte) : Loc := .ram s.dstPage a

/-! ## Values -/

/-- The value of `r[n]`. -/
def State.readWork (s : State) (n : Nibble) : Res Byte := s.readLoc (s.workLoc s.srcPage n)

/-- The value of `Reg[a]`. -/
def State.readReg (s : State) (a : Byte) : Res Byte := s.readLoc (s.regLoc s.srcPage a)

/-- The value of `RegI[a]`. -/
def State.readInd (s : State) (a : Byte) : Res Byte := s.readLoc (.ram s.srcPage a)

/-- Class Ir: `RegI[ r[n] ]`. -/
def State.readWorkInd (s : State) (n : Nibble) : Res Byte := do
  let p ← s.readWork n
  s.readInd p

/-- Class IR: `RegI[ Reg[a] ]`. -/
def State.readRegInd (s : State) (a : Byte) : Res Byte := do
  let p ← s.readReg a
  s.readInd p

/-- The place of an IR destination: `RegI[ Reg[a] ]`. -/
def State.dstRegInd (s : State) (a : Byte) : Res Loc := do
  let p ← s.readReg a
  return s.dstInd p

/-- The number of the working register pair a 3-bit field names: the field and a 0 (30_encoding.md R87). -/
def pairNumber (p : Tri) : Nibble := p ++ 0#1

/-- `rr[p]`, high byte from the even register (10_state.md R16). -/
def State.readWorkPair (s : State) (p : Tri) : Res Word := do
  let hi ← s.readWork (pairNumber p)
  let lo ← s.readWork (pairNumber p + 1#4)
  return wordOf hi lo

/-- Goes on where a pair's address is even, refuses where it is odd (10_state.md R16; U4). -/
def evenOr (a : Byte) (r : Refusal) (k : Res α) : Res α := if bitAt a 0#3 then .error (.refusal r) else k

/-- `RR[a]` (10_state.md R16). -/
def State.readRegPair (s : State) (a : Byte) : Res Word :=
  evenOr a .oddPair do
    let hi ← s.readReg a
    let lo ← s.readReg (a + 1#8)
    return wordOf hi lo

/-- `RegI[p] :: RegI[p+1]`, p even (30_encoding.md R82). -/
def State.readIndPair (s : State) (p : Byte) : Res Word :=
  evenOr p .oddPair do
    let hi ← s.readInd p
    let lo ← s.readInd (p + 1#8)
    return wordOf hi lo

/-- Two bytes written to two places, the first place first. -/
def State.writeTwo (s : State) (hiLoc loLoc : Loc) (hi lo : Byte) : Res State := do
  let s1 ← s.writeLoc hiLoc hi
  s1.writeLoc loLoc lo

/-- A word written to the working register pair a field names. -/
def State.writeWorkPair (s : State) (p : Tri) (w : Word) : Res State :=
  s.writeTwo (s.dstWork (pairNumber p)) (s.dstWork (pairNumber p + 1#4)) (hiByte w) (loByte w)

/-! ## Shapes: a result stored with its flags -/

/-- The destination written, then the flags, in the order of the rules' pseudocode (41_arithmetic.md R160; log 29). -/
def State.storeResult (s : State) (dst : Loc) (r : AluResult) : Res State := do
  let s1 ← s.writeLoc dst r.value
  return s1.updateFlags r.flags

/-- A pair written, then the flags (41_arithmetic.md R168, R170). -/
def State.storePair (s : State) (hiLoc loLoc : Loc) (r : PairResult) : Res State := do
  let s1 ← s.writeTwo hiLoc loLoc r.high r.low
  return s1.updateFlags r.flags

/-! ## Shapes: two operands (41_arithmetic.md R172) -/

/-- Form r,r. -/
def State.alu_r_r (s : State) (f : Byte → Byte → AluResult) (dst src : Nibble) : Res State := do
  let a ← s.readWork dst
  let b ← s.readWork src
  s.storeResult (s.dstWork dst) (f a b)

/-- Form r,Ir. -/
def State.alu_r_Ir (s : State) (f : Byte → Byte → AluResult) (dst src : Nibble) : Res State := do
  let a ← s.readWork dst
  let b ← s.readWorkInd src
  s.storeResult (s.dstWork dst) (f a b)

/-- Form R,R. -/
def State.alu_R_R (s : State) (f : Byte → Byte → AluResult) (dst src : Byte) : Res State := do
  let a ← s.readReg dst
  let b ← s.readReg src
  s.storeResult (s.dstReg dst) (f a b)

/-- Form R,IR. -/
def State.alu_R_IR (s : State) (f : Byte → Byte → AluResult) (dst src : Byte) : Res State := do
  let a ← s.readReg dst
  let b ← s.readRegInd src
  s.storeResult (s.dstReg dst) (f a b)

/-- Form R,IM. -/
def State.alu_R_IM (s : State) (f : Byte → Byte → AluResult) (dst im : Byte) : Res State := do
  let a ← s.readReg dst
  s.storeResult (s.dstReg dst) (f a im)

/-- Form r,r of CP, TCM, TM: flags only. -/
def State.test_r_r (s : State) (f : Byte → Byte → FlagUpdate) (dst src : Nibble) : Res State := do
  let a ← s.readWork dst
  let b ← s.readWork src
  return s.updateFlags (f a b)

/-- Form r,Ir of CP, TCM, TM. -/
def State.test_r_Ir (s : State) (f : Byte → Byte → FlagUpdate) (dst src : Nibble) : Res State := do
  let a ← s.readWork dst
  let b ← s.readWorkInd src
  return s.updateFlags (f a b)

/-- Form R,R of CP, TCM, TM. -/
def State.test_R_R (s : State) (f : Byte → Byte → FlagUpdate) (dst src : Byte) : Res State := do
  let a ← s.readReg dst
  let b ← s.readReg src
  return s.updateFlags (f a b)

/-- Form R,IR of CP, TCM, TM. -/
def State.test_R_IR (s : State) (f : Byte → Byte → FlagUpdate) (dst src : Byte) : Res State := do
  let a ← s.readReg dst
  let b ← s.readRegInd src
  return s.updateFlags (f a b)

/-- Form R,IM of CP, TCM, TM. -/
def State.test_R_IM (s : State) (f : Byte → Byte → FlagUpdate) (dst im : Byte) : Res State := do
  let a ← s.readReg dst
  return s.updateFlags (f a im)

/-! ## Shapes: one operand (41_arithmetic.md R165 to R167; 42_logic.md R193; 45_rotate_shift.md R256) -/

/-- Form r. -/
def State.unary_r (s : State) (f : Byte → AluResult) (dst : Nibble) : Res State := do
  let a ← s.readWork dst
  s.storeResult (s.dstWork dst) (f a)

/-- Form R. -/
def State.unary_R (s : State) (f : Byte → AluResult) (dst : Byte) : Res State := do
  let a ← s.readReg dst
  s.storeResult (s.dstReg dst) (f a)

/-- Form IR: the operand is `RegI[ Reg[dst] ]`. -/
def State.unary_IR (s : State) (f : Byte → AluResult) (dst : Byte) : Res State := do
  let p ← s.readReg dst
  let a ← s.readInd p
  s.storeResult (s.dstInd p) (f a)

/-! ## Shapes: register pairs (41_arithmetic.md R168 to R171) -/

/-- Form RR of INCW and DECW. -/
def State.wide_RR (s : State) (f : Word → PairResult) (dst : Byte) : Res State := do
  let w ← s.readRegPair dst
  s.storePair (s.dstReg dst) (s.dstReg (dst + 1#8)) (f w)

/-- Form IR of INCW and DECW: the register named holds the even address of the pair. -/
def State.wide_IR (s : State) (f : Word → PairResult) (dst : Byte) : Res State := do
  let p ← s.readReg dst
  let w ← s.readIndPair p
  s.storePair (s.dstInd p) (s.dstInd (p + 1#8)) (f w)

/-- MULT with the multiplier n: the multiplicand is the even register (41_arithmetic.md R170). -/
def State.multiply (s : State) (dst n : Byte) : Res State :=
  evenOr dst .oddPair do
    let m ← s.readReg dst
    s.storePair (s.dstReg dst) (s.dstReg (dst + 1#8)) (multResult m n)

/-- The free values of a division. -/
def State.divideDraws (s : State) : DivideDraws where
  high := s.drawByte .divHigh
  low := s.drawByte .divLow
  carry := s.drawBit .carryFlag
  sign := s.drawBit .signFlag

/-- DIV by d (41_arithmetic.md R171): where the result is stated the pair is written and then the flags; where it is not, the flags and
then the pair, in the order of the rule's pseudocode. -/
def State.divide (s : State) (dst d : Byte) : Res State := do
  let n ← s.readRegPair dst
  let r := divideResult s.divideDraws n d
  if divideFits n d then s.storePair (s.dstReg dst) (s.dstReg (dst + 1#8)) r
  else (s.updateFlags r.flags).writeTwo (s.dstReg dst) (s.dstReg (dst + 1#8)) r.high r.low

/-! ## Shapes: one bit (44_bit_manipulation.md R240) -/

/-- Form r0,Rb of BAND, BOR, BXOR: bit 0 of the working register becomes f of it and bit b of the register. -/
def State.bit_r0_Rb (s : State) (f : Bool → Bool → Bool) (dst : Nibble) (src : Byte) (b : Tri) : Res State := do
  let x ← s.readWork dst
  let y ← s.readReg src
  let v := f (bitAt x 0#3) (bitAt y b)
  s.storeResult (s.dstWork dst) { value := withBit x 0#3 v, flags := bitFlags (s.drawBit .overflowFlag) v }

/-- Form Rb,r0 of BAND, BOR, BXOR: bit b of the register becomes f of it and bit 0 of the working register. -/
def State.bit_Rb_r0 (s : State) (f : Bool → Bool → Bool) (dst : Byte) (b : Tri) (src : Nibble) : Res State := do
  let x ← s.readReg dst
  let y ← s.readWork src
  let v := f (bitAt x b) (bitAt y 0#3)
  s.storeResult (s.dstReg dst) { value := withBit x b v, flags := bitFlags (s.drawBit .overflowFlag) v }

/-! ## Shapes: control transfer -/

/-- A jump to `(pc + sext_16(ra)) mod 2^16`, pc past the instruction (43_program_control.md R215). -/
def State.jumpRelative (s : State) (ra : Byte) : State := s.setPc (s.pc + sext16 ra)

/-- A relative jump where a condition holds. -/
def State.jumpIf (s : State) (c : Bool) (ra : Byte) : State := if c then s.jumpRelative ra else s

/-- A call: the target known, the return address pushed, then the jump (43_program_control.md R202). -/
def State.callTo (s : State) (target : Word) : Res State := do
  let s1 ← s.push16 s.pc
  return s1.setPc target

end Sys2Proof.Machine
end

