-- ==== Sys2Proof/Machine/Arithmetic.lean ====
section
/-! DEFINITION. The arithmetic instructions (41_arithmetic.md). -/

namespace Sys2Proof.Machine

/-- ADD r,r (R160, R172). -/
def execAdd_r_r (dst : Nibble) (src : Nibble) (s : State) : Host.Outcome State Fault Refusal :=
  finish (s.alu_r_r (addResult false) dst src)

/-- ADD r,Ir (R160, R172). -/
def execAdd_r_Ir (dst : Nibble) (src : Nibble) (s : State) : Host.Outcome State Fault Refusal :=
  finish (s.alu_r_Ir (addResult false) dst src)

/-- ADD R,R (R160, R172). -/
def execAdd_R_R (dst : Byte) (src : Byte) (s : State) : Host.Outcome State Fault Refusal :=
  finish (s.alu_R_R (addResult false) dst src)

/-- ADD R,IR (R160, R172). -/
def execAdd_R_IR (dst : Byte) (src : Byte) (s : State) : Host.Outcome State Fault Refusal :=
  finish (s.alu_R_IR (addResult false) dst src)

/-- ADD R,IM (R160, R172). -/
def execAdd_R_IM (dst : Byte) (im : Byte) (s : State) : Host.Outcome State Fault Refusal :=
  finish (s.alu_R_IM (addResult false) dst im)

/-- ADC r,r (R161, R172). -/
def execAdc_r_r (dst : Nibble) (src : Nibble) (s : State) : Host.Outcome State Fault Refusal :=
  finish (s.alu_r_r (addResult (s.flag .c)) dst src)

/-- ADC r,Ir (R161, R172). -/
def execAdc_r_Ir (dst : Nibble) (src : Nibble) (s : State) : Host.Outcome State Fault Refusal :=
  finish (s.alu_r_Ir (addResult (s.flag .c)) dst src)

/-- ADC R,R (R161, R172). -/
def execAdc_R_R (dst : Byte) (src : Byte) (s : State) : Host.Outcome State Fault Refusal :=
  finish (s.alu_R_R (addResult (s.flag .c)) dst src)

/-- ADC R,IR (R161, R172). -/
def execAdc_R_IR (dst : Byte) (src : Byte) (s : State) : Host.Outcome State Fault Refusal :=
  finish (s.alu_R_IR (addResult (s.flag .c)) dst src)

/-- ADC R,IM (R161, R172). -/
def execAdc_R_IM (dst : Byte) (im : Byte) (s : State) : Host.Outcome State Fault Refusal :=
  finish (s.alu_R_IM (addResult (s.flag .c)) dst im)

/-- SUB r,r (R162, R172). -/
def execSub_r_r (dst : Nibble) (src : Nibble) (s : State) : Host.Outcome State Fault Refusal :=
  finish (s.alu_r_r (subResult false) dst src)

/-- SUB r,Ir (R162, R172). -/
def execSub_r_Ir (dst : Nibble) (src : Nibble) (s : State) : Host.Outcome State Fault Refusal :=
  finish (s.alu_r_Ir (subResult false) dst src)

/-- SUB R,R (R162, R172). -/
def execSub_R_R (dst : Byte) (src : Byte) (s : State) : Host.Outcome State Fault Refusal :=
  finish (s.alu_R_R (subResult false) dst src)

/-- SUB R,IR (R162, R172). -/
def execSub_R_IR (dst : Byte) (src : Byte) (s : State) : Host.Outcome State Fault Refusal :=
  finish (s.alu_R_IR (subResult false) dst src)

/-- SUB R,IM (R162, R172). -/
def execSub_R_IM (dst : Byte) (im : Byte) (s : State) : Host.Outcome State Fault Refusal :=
  finish (s.alu_R_IM (subResult false) dst im)

/-- SBC r,r (R163, R172). -/
def execSbc_r_r (dst : Nibble) (src : Nibble) (s : State) : Host.Outcome State Fault Refusal :=
  finish (s.alu_r_r (subResult (s.flag .c)) dst src)

/-- SBC r,Ir (R163, R172). -/
def execSbc_r_Ir (dst : Nibble) (src : Nibble) (s : State) : Host.Outcome State Fault Refusal :=
  finish (s.alu_r_Ir (subResult (s.flag .c)) dst src)

/-- SBC R,R (R163, R172). -/
def execSbc_R_R (dst : Byte) (src : Byte) (s : State) : Host.Outcome State Fault Refusal :=
  finish (s.alu_R_R (subResult (s.flag .c)) dst src)

/-- SBC R,IR (R163, R172). -/
def execSbc_R_IR (dst : Byte) (src : Byte) (s : State) : Host.Outcome State Fault Refusal :=
  finish (s.alu_R_IR (subResult (s.flag .c)) dst src)

/-- SBC R,IM (R163, R172). -/
def execSbc_R_IM (dst : Byte) (im : Byte) (s : State) : Host.Outcome State Fault Refusal :=
  finish (s.alu_R_IM (subResult (s.flag .c)) dst im)

/-- CP r,r (R164, R172). -/
def execCp_r_r (dst : Nibble) (src : Nibble) (s : State) : Host.Outcome State Fault Refusal :=
  finish (s.test_r_r compareFlags dst src)

/-- CP r,Ir (R164, R172). -/
def execCp_r_Ir (dst : Nibble) (src : Nibble) (s : State) : Host.Outcome State Fault Refusal :=
  finish (s.test_r_Ir compareFlags dst src)

/-- CP R,R (R164, R172). -/
def execCp_R_R (dst : Byte) (src : Byte) (s : State) : Host.Outcome State Fault Refusal :=
  finish (s.test_R_R compareFlags dst src)

/-- CP R,IR (R164, R172). -/
def execCp_R_IR (dst : Byte) (src : Byte) (s : State) : Host.Outcome State Fault Refusal :=
  finish (s.test_R_IR compareFlags dst src)

/-- CP R,IM (R164, R172). -/
def execCp_R_IM (dst : Byte) (im : Byte) (s : State) : Host.Outcome State Fault Refusal :=
  finish (s.test_R_IM compareFlags dst im)

/-- The free values of a decimal adjustment (41_arithmetic.md R165). -/
def State.decimalDraws (s : State) : DecimalDraws where
  result := s.drawByte .decimalResult
  carry := s.drawBit .carryFlag
  overflow := s.drawBit .overflowFlag

/-- DA of a byte, by the flags before (41_arithmetic.md R165). -/
def State.decimalAdjust (s : State) (a : Byte) : AluResult :=
  decimalResult (s.flag .d) (s.flag .c) (s.flag .h) s.decimalDraws a

/-- DA R (R165). -/
def execDa_R (dst : Byte) (s : State) : Host.Outcome State Fault Refusal := finish (s.unary_R s.decimalAdjust dst)

/-- DA IR (R165). -/
def execDa_IR (dst : Byte) (s : State) : Host.Outcome State Fault Refusal := finish (s.unary_IR s.decimalAdjust dst)

/-- DEC R (R167). -/
def execDec_R (dst : Byte) (s : State) : Host.Outcome State Fault Refusal := finish (s.unary_R decResult dst)

/-- DEC IR (R167). -/
def execDec_IR (dst : Byte) (s : State) : Host.Outcome State Fault Refusal := finish (s.unary_IR decResult dst)

/-- INC r (R166). -/
def execInc_r (dst : Nibble) (s : State) : Host.Outcome State Fault Refusal := finish (s.unary_r incResult dst)

/-- INC R (R166). -/
def execInc_R (dst : Byte) (s : State) : Host.Outcome State Fault Refusal := finish (s.unary_R incResult dst)

/-- INC IR (R166). -/
def execInc_IR (dst : Byte) (s : State) : Host.Outcome State Fault Refusal := finish (s.unary_IR incResult dst)

/-- DECW RR (R169); Z is drawn. -/
def execDecw_RR (dst : Byte) (s : State) : Host.Outcome State Fault Refusal :=
  finish (s.wide_RR (decwResult (s.drawBit .zeroFlag)) dst)

/-- DECW IR (R169); Z is drawn. -/
def execDecw_IR (dst : Byte) (s : State) : Host.Outcome State Fault Refusal :=
  finish (s.wide_IR (decwResult (s.drawBit .zeroFlag)) dst)

/-- INCW RR (R168); Z is drawn. -/
def execIncw_RR (dst : Byte) (s : State) : Host.Outcome State Fault Refusal :=
  finish (s.wide_RR (incwResult (s.drawBit .zeroFlag)) dst)

/-- INCW IR (R168); Z is drawn. -/
def execIncw_IR (dst : Byte) (s : State) : Host.Outcome State Fault Refusal :=
  finish (s.wide_IR (incwResult (s.drawBit .zeroFlag)) dst)

/-- MULT RR,R (R170). -/
def execMult_RR_R (dst : Byte) (src : Byte) (s : State) : Host.Outcome State Fault Refusal :=
  finish do
    let n ← s.readReg src
    s.multiply dst n

/-- MULT RR,IR (R170). -/
def execMult_RR_IR (dst : Byte) (src : Byte) (s : State) : Host.Outcome State Fault Refusal :=
  finish do
    let n ← s.readRegInd src
    s.multiply dst n

/-- MULT RR,IM (R170). -/
def execMult_RR_IM (dst : Byte) (im : Byte) (s : State) : Host.Outcome State Fault Refusal := finish (s.multiply dst im)

/-- DIV RR,R (R171). -/
def execDiv_RR_R (dst : Byte) (src : Byte) (s : State) : Host.Outcome State Fault Refusal :=
  finish do
    let n ← s.readReg src
    s.divide dst n

/-- DIV RR,IR (R171). -/
def execDiv_RR_IR (dst : Byte) (src : Byte) (s : State) : Host.Outcome State Fault Refusal :=
  finish do
    let n ← s.readRegInd src
    s.divide dst n

/-- DIV RR,IM (R171). -/
def execDiv_RR_IM (dst : Byte) (im : Byte) (s : State) : Host.Outcome State Fault Refusal := finish (s.divide dst im)

end Sys2Proof.Machine
end

