-- ==== Sys2Proof/Machine/BitManipulation.lean ====
section
/-! DEFINITION. The bit-manipulation instructions (44_bit_manipulation.md), LDB among them. -/

namespace Sys2Proof.Machine

/-- TCM r,r (R238, R172). -/
def execTcm_r_r (dst : Nibble) (src : Nibble) (s : State) : Host.Outcome State Fault Refusal :=
  finish (s.test_r_r (fun a b => logicFlags (~~~a &&& b)) dst src)

/-- TCM r,Ir (R238, R172). -/
def execTcm_r_Ir (dst : Nibble) (src : Nibble) (s : State) : Host.Outcome State Fault Refusal :=
  finish (s.test_r_Ir (fun a b => logicFlags (~~~a &&& b)) dst src)

/-- TCM R,R (R238, R172). -/
def execTcm_R_R (dst : Byte) (src : Byte) (s : State) : Host.Outcome State Fault Refusal :=
  finish (s.test_R_R (fun a b => logicFlags (~~~a &&& b)) dst src)

/-- TCM R,IR (R238, R172). -/
def execTcm_R_IR (dst : Byte) (src : Byte) (s : State) : Host.Outcome State Fault Refusal :=
  finish (s.test_R_IR (fun a b => logicFlags (~~~a &&& b)) dst src)

/-- TCM R,IM (R238, R172). -/
def execTcm_R_IM (dst : Byte) (im : Byte) (s : State) : Host.Outcome State Fault Refusal :=
  finish (s.test_R_IM (fun a b => logicFlags (~~~a &&& b)) dst im)

/-- TM r,r (R239, R172). -/
def execTm_r_r (dst : Nibble) (src : Nibble) (s : State) : Host.Outcome State Fault Refusal :=
  finish (s.test_r_r (fun a b => logicFlags (a &&& b)) dst src)

/-- TM r,Ir (R239, R172). -/
def execTm_r_Ir (dst : Nibble) (src : Nibble) (s : State) : Host.Outcome State Fault Refusal :=
  finish (s.test_r_Ir (fun a b => logicFlags (a &&& b)) dst src)

/-- TM R,R (R239, R172). -/
def execTm_R_R (dst : Byte) (src : Byte) (s : State) : Host.Outcome State Fault Refusal :=
  finish (s.test_R_R (fun a b => logicFlags (a &&& b)) dst src)

/-- TM R,IR (R239, R172). -/
def execTm_R_IR (dst : Byte) (src : Byte) (s : State) : Host.Outcome State Fault Refusal :=
  finish (s.test_R_IR (fun a b => logicFlags (a &&& b)) dst src)

/-- TM R,IM (R239, R172). -/
def execTm_R_IM (dst : Byte) (im : Byte) (s : State) : Host.Outcome State Fault Refusal :=
  finish (s.test_R_IM (fun a b => logicFlags (a &&& b)) dst im)

/-- BAND r0,Rb (R230). -/
def execBand_r0_Rb (dst : Nibble) (src : Byte) (b : Tri) (s : State) : Host.Outcome State Fault Refusal :=
  finish (s.bit_r0_Rb Bool.and dst src b)

/-- BAND Rb,r0 (R230). -/
def execBand_Rb_r0 (dst : Byte) (b : Tri) (src : Nibble) (s : State) : Host.Outcome State Fault Refusal :=
  finish (s.bit_Rb_r0 Bool.and dst b src)

/-- BOR r0,Rb (R231). -/
def execBor_r0_Rb (dst : Nibble) (src : Byte) (b : Tri) (s : State) : Host.Outcome State Fault Refusal :=
  finish (s.bit_r0_Rb Bool.or dst src b)

/-- BOR Rb,r0 (R231). -/
def execBor_Rb_r0 (dst : Byte) (b : Tri) (src : Nibble) (s : State) : Host.Outcome State Fault Refusal :=
  finish (s.bit_Rb_r0 Bool.or dst b src)

/-- BXOR r0,Rb (R232). -/
def execBxor_r0_Rb (dst : Nibble) (src : Byte) (b : Tri) (s : State) : Host.Outcome State Fault Refusal :=
  finish (s.bit_r0_Rb Bool.xor dst src b)

/-- BXOR Rb,r0 (R232). -/
def execBxor_Rb_r0 (dst : Byte) (b : Tri) (src : Nibble) (s : State) : Host.Outcome State Fault Refusal :=
  finish (s.bit_Rb_r0 Bool.xor dst b src)

/-- BCP r0,Rb (R233): Z is 1 where the two bits are equal. -/
def execBcp_r0_Rb (dst : Nibble) (src : Byte) (b : Tri) (s : State) : Host.Outcome State Fault Refusal :=
  finish do
    let x ← s.readWork dst
    let y ← s.readReg src
    return s.updateFlags (bitFlags (s.drawBit .overflowFlag) (bitAt x 0#3 ^^ bitAt y b))

/-- BITC rb (R234). -/
def execBitc_rb (dst : Nibble) (b : Tri) (s : State) : Host.Outcome State Fault Refusal :=
  finish do
    let x ← s.readWork dst
    let v := !bitAt x b
    s.storeResult (s.dstWork dst) { value := withBit x b v, flags := bitFlags (s.drawBit .overflowFlag) v }

/-- BITR rb (R235). -/
def execBitr_rb (dst : Nibble) (b : Tri) (s : State) : Host.Outcome State Fault Refusal :=
  finish do
    let x ← s.readWork dst
    s.writeLoc (s.dstWork dst) (withBit x b false)

/-- BITS rb (R237). -/
def execBits_rb (dst : Nibble) (b : Tri) (s : State) : Host.Outcome State Fault Refusal :=
  finish do
    let x ← s.readWork dst
    s.writeLoc (s.dstWork dst) (withBit x b true)

/-- LDB r0,Rb (R236). -/
def execLdb_r0_Rb (dst : Nibble) (src : Byte) (b : Tri) (s : State) : Host.Outcome State Fault Refusal :=
  finish do
    let x ← s.readWork dst
    let y ← s.readReg src
    s.writeLoc (s.dstWork dst) (withBit x 0#3 (bitAt y b))

/-- LDB Rb,r0 (R236). -/
def execLdb_Rb_r0 (dst : Byte) (b : Tri) (src : Nibble) (s : State) : Host.Outcome State Fault Refusal :=
  finish do
    let x ← s.readReg dst
    let y ← s.readWork src
    s.writeLoc (s.dstReg dst) (withBit x b (bitAt y 0#3))

end Sys2Proof.Machine
end

