-- ==== Sys2Proof/Machine/CpuControl.lean ====
section
/-! DEFINITION. The CPU-control instructions (46_cpu_control.md). -/

namespace Sys2Proof.Machine

/-- CCF (R260). -/
def execCcf (s : State) : Host.Outcome State Fault Refusal := .next (s.putFlag .c (!s.flag .c))

/-- RCF (R261). -/
def execRcf (s : State) : Host.Outcome State Fault Refusal := .next (s.putFlag .c false)

/-- SCF (R262). -/
def execScf (s : State) : Host.Outcome State Fault Refusal := .next (s.putFlag .c true)

/-- DI (R263). -/
def execDi (s : State) : Host.Outcome State Fault Refusal := .next (s.putIe false)

/-- EI (R264); the next boundary may or may not take a request (D28). -/
def execEi (s : State) : Host.Outcome State Fault Refusal := .next ((s.putIe true).setLatency true)

/-- SB0 (R265). -/
def execSb0 (s : State) : Host.Outcome State Fault Refusal := .next (s.putFlag .ba false)

/-- SB1 (R266). -/
def execSb1 (s : State) : Host.Outcome State Fault Refusal := .next (s.putFlag .ba true)

/-- SRP IM (R267): `im` is bits 7..3 of the operand, of which bits 7..4 are used. -/
def execSrp_IM (im : BitVec 5) (_x : BitVec 1) (s : State) : Host.Outcome State Fault Refusal :=
  .next ((s.setRp0 (im.extractLsb' 1 4 ++ 0#1 ++ 0#3)).setRp1 (im.extractLsb' 1 4 ++ 1#1 ++ 0#3))

/-- SRP0 IM (R268). -/
def execSrp0_IM (im : BitVec 5) (_x : BitVec 1) (s : State) : Host.Outcome State Fault Refusal :=
  .next (s.setRp0 (im ++ 0#3))

/-- SRP1 IM (R269). -/
def execSrp1_IM (im : BitVec 5) (_x : BitVec 1) (s : State) : Host.Outcome State Fault Refusal :=
  .next (s.setRp1 (im ++ 0#3))

/-- NOP (R271). -/
def execNop (s : State) : Host.Outcome State Fault Refusal := .next s

/-- IDLE (R270). -/
def execIdle (s : State) : Host.Outcome State Fault Refusal := .next (s.setPower .idle)

/-- Whether STOP is honoured (R273, `STOP_ENABLE`): always, or while the key register holds its key. -/
def State.stopHonoured (s : State) : Bool :=
  match s.launch.stopKey with
  | none => true
  | some (l, key) => s.stored l == key

/-- STOP (R272); where it is not honoured it acts as a NOP (R273). -/
def execStop (s : State) : Host.Outcome State Fault Refusal := .next (if s.stopHonoured then s.setPower .stop else s)

end Sys2Proof.Machine
end

