-- ==== Sys2Proof/Machine/Load.lean ====
section
/-! DEFINITION. The load instructions (40_load.md); LDB is in BitManipulation.lean. -/

namespace Sys2Proof.Machine

/-- CLR R (R121). -/
def execClr_R (dst : Byte) (s : State) : Host.Outcome State Fault Refusal := finish (s.writeLoc (s.dstReg dst) 0x00#8)

/-- CLR IR (R121). -/
def execClr_IR (dst : Byte) (s : State) : Host.Outcome State Fault Refusal :=
  finish do
    let l ← s.dstRegInd dst
    s.writeLoc l 0x00#8

/-- LD r,IM (R122). -/
def execLd_r_IM (dst : Nibble) (im : Byte) (s : State) : Host.Outcome State Fault Refusal :=
  finish (s.writeLoc (s.dstWork dst) im)

/-- LD r,R (R122). -/
def execLd_r_R (dst : Nibble) (src : Byte) (s : State) : Host.Outcome State Fault Refusal :=
  finish do
    let v ← s.readReg src
    s.writeLoc (s.dstWork dst) v

/-- LD R,r (R122). -/
def execLd_R_r (dst : Byte) (src : Nibble) (s : State) : Host.Outcome State Fault Refusal :=
  finish do
    let v ← s.readWork src
    s.writeLoc (s.dstReg dst) v

/-- LD r,Ir (R122). -/
def execLd_r_Ir (dst : Nibble) (src : Nibble) (s : State) : Host.Outcome State Fault Refusal :=
  finish do
    let v ← s.readWorkInd src
    s.writeLoc (s.dstWork dst) v

/-- LD Ir,r (R122). -/
def execLd_Ir_r (dst : Nibble) (src : Nibble) (s : State) : Host.Outcome State Fault Refusal :=
  finish do
    let p ← s.readWork dst
    let v ← s.readWork src
    s.writeLoc (s.dstInd p) v

/-- LD R,R (R122). -/
def execLd_R_R (dst : Byte) (src : Byte) (s : State) : Host.Outcome State Fault Refusal :=
  finish do
    let v ← s.readReg src
    s.writeLoc (s.dstReg dst) v

/-- LD R,IR (R122). -/
def execLd_R_IR (dst : Byte) (src : Byte) (s : State) : Host.Outcome State Fault Refusal :=
  finish do
    let v ← s.readRegInd src
    s.writeLoc (s.dstReg dst) v

/-- LD R,IM (R122). -/
def execLd_R_IM (dst : Byte) (im : Byte) (s : State) : Host.Outcome State Fault Refusal :=
  finish (s.writeLoc (s.dstReg dst) im)

/-- LD IR,IM (R122). -/
def execLd_IR_IM (dst : Byte) (im : Byte) (s : State) : Host.Outcome State Fault Refusal :=
  finish do
    let l ← s.dstRegInd dst
    s.writeLoc l im

/-- LD IR,R (R122). -/
def execLd_IR_R (dst : Byte) (src : Byte) (s : State) : Host.Outcome State Fault Refusal :=
  finish do
    let l ← s.dstRegInd dst
    let v ← s.readReg src
    s.writeLoc l v

/-- LD r,x[r] (R122): the sum wraps modulo 256 (D25). -/
def execLd_r_X (dst : Nibble) (x : Byte) (idx : Nibble) (s : State) : Host.Outcome State Fault Refusal :=
  finish do
    let i ← s.readWork idx
    let v ← s.readInd (x + i)
    s.writeLoc (s.dstWork dst) v

/-- LD x[r],r (R122): the sum wraps modulo 256 (D25). -/
def execLd_X_r (x : Byte) (idx : Nibble) (src : Nibble) (s : State) : Host.Outcome State Fault Refusal :=
  finish do
    let i ← s.readWork idx
    let v ← s.readWork src
    s.writeLoc (s.dstInd (x + i)) v

/-! ## Program and data memory (40_load.md R130 to R143) -/

/-- `MemC` (R131): data memory for the LDE family, program memory for the LDC family. -/
def State.memRead (s : State) (external : Bool) (a : Word) : Res Byte := if external then s.dataRead a else s.progRead a

/-- A working register loaded from memory (R132, R134, R136, R138). -/
def State.loadMem (s : State) (external : Bool) (dst : Nibble) (a : Word) : Res State := do
  let v ← s.memRead external a
  s.writeLoc (s.dstWork dst) v

/-- A load through a pair plus an offset, the pair unchanged (R132, R134, R136). -/
def State.loadPair (s : State) (external : Bool) (dst : Nibble) (p : Tri) (offset : Word) : Res State := do
  let a ← s.readWorkPair p
  s.loadMem external dst (a + offset)

/-- A load through a pair, then the pair changed by delta (R140, R141). Where the loaded register is one of the pair's, the order of the
two writes is not known: that register gets a free byte (U11, log 12). -/
def State.loadStep (s : State) (external : Bool) (dst : Nibble) (p : Tri) (delta : Word) : Res State := do
  let a ← s.readWorkPair p
  let v ← s.memRead external a
  let w := a + delta
  let dstLoc := s.dstWork dst
  let hiLoc := s.dstWork (pairNumber p)
  let loLoc := s.dstWork (pairNumber p + 1#4)
  if dstLoc = hiLoc then s.writeTwo hiLoc loLoc (s.drawByte .overlap) (loByte w)
  else if dstLoc = loLoc then s.writeTwo hiLoc loLoc (hiByte w) (s.drawByte .overlap)
  else do
    let s1 ← s.writeLoc dstLoc v
    s1.writeTwo hiLoc loLoc (hiByte w) (loByte w)

/-- A store to data memory through a pair plus an offset (R133, R135, R137). -/
def State.storeData (s : State) (p : Tri) (offset : Word) (src : Nibble) : Res State := do
  let a ← s.readWorkPair p
  let v ← s.readWork src
  s.dataWrite (a + offset) v

/-- The pair changed by delta, then a store to data memory through it (R142, R143). MODEL'S CHOICE (DESIGN CHOICE, log 48): the address
is the word computed, not the pair read back, which differs where the pair lies in registers that drop bits or are volatile; the byte
stored is read after the pair has changed (log 30). -/
def State.stepStoreData (s : State) (p : Tri) (delta : Word) (src : Nibble) : Res State := do
  let a ← s.readWorkPair p
  let s1 ← s.writeWorkPair p (a + delta)
  let v ← s1.readLoc (s.workLoc s.srcPage src)
  s1.dataWrite (a + delta) v

/-- A store to program memory, which the core cannot write (20_memory.md R55; U8, D6). -/
def refuseProgramStore : Host.Outcome State Fault Refusal := .refused .programStore

/-- LDC r,Irr (R132). -/
def execLdc_r_Irr (dst : Nibble) (p : Tri) (s : State) : Host.Outcome State Fault Refusal :=
  finish (s.loadPair false dst p 0#16)

/-- LDC r,XS[rr] (R134). -/
def execLdc_r_XS (dst : Nibble) (p : Tri) (xs : Byte) (s : State) : Host.Outcome State Fault Refusal :=
  finish (s.loadPair false dst p (sext16 xs))

/-- LDC r,XL[rr] (R136). -/
def execLdc_r_XL (dst : Nibble) (p : Tri) (xl : Word) (s : State) : Host.Outcome State Fault Refusal :=
  finish (s.loadPair false dst p xl)

/-- LDC r,DA (R138). -/
def execLdc_r_DA (dst : Nibble) (da : Word) (s : State) : Host.Outcome State Fault Refusal := finish (s.loadMem false dst da)

/-- LDE r,Irr (R132). -/
def execLde_r_Irr (dst : Nibble) (p : Tri) (s : State) : Host.Outcome State Fault Refusal :=
  finish (s.loadPair true dst p 0#16)

/-- LDE r,XS[rr] (R134). -/
def execLde_r_XS (dst : Nibble) (p : Tri) (xs : Byte) (s : State) : Host.Outcome State Fault Refusal :=
  finish (s.loadPair true dst p (sext16 xs))

/-- LDE r,XL[rr] (R136). -/
def execLde_r_XL (dst : Nibble) (p : Tri) (xl : Word) (s : State) : Host.Outcome State Fault Refusal :=
  finish (s.loadPair true dst p xl)

/-- LDE r,DA (R138). -/
def execLde_r_DA (dst : Nibble) (da : Word) (s : State) : Host.Outcome State Fault Refusal := finish (s.loadMem true dst da)

/-- LDCD r,Irr (R140). -/
def execLdcd_r_Irr (dst : Nibble) (p : Tri) (s : State) : Host.Outcome State Fault Refusal :=
  finish (s.loadStep false dst p 0xFFFF#16)

/-- LDED r,Irr (R140). -/
def execLded_r_Irr (dst : Nibble) (p : Tri) (s : State) : Host.Outcome State Fault Refusal :=
  finish (s.loadStep true dst p 0xFFFF#16)

/-- LDCI r,Irr (R141). -/
def execLdci_r_Irr (dst : Nibble) (p : Tri) (s : State) : Host.Outcome State Fault Refusal :=
  finish (s.loadStep false dst p 1#16)

/-- LDEI r,Irr (R141). -/
def execLdei_r_Irr (dst : Nibble) (p : Tri) (s : State) : Host.Outcome State Fault Refusal :=
  finish (s.loadStep true dst p 1#16)

/-- LDC Irr,r (R133). Refused: program memory is ROM (R55; U8). -/
def execLdc_Irr_r (_p : Tri) (_src : Nibble) (_s : State) : Host.Outcome State Fault Refusal := refuseProgramStore

/-- LDC XS[rr],r (R135). Refused: program memory is ROM (R55; U8). -/
def execLdc_XS_r (_p : Tri) (_xs : Byte) (_src : Nibble) (_s : State) : Host.Outcome State Fault Refusal := refuseProgramStore

/-- LDC XL[rr],r (R137). Refused: program memory is ROM (R55; U8). -/
def execLdc_XL_r (_p : Tri) (_xl : Word) (_src : Nibble) (_s : State) : Host.Outcome State Fault Refusal := refuseProgramStore

/-- LDC DA,r (R139). Refused: program memory is ROM (R55; U8). -/
def execLdc_DA_r (_da : Word) (_src : Nibble) (_s : State) : Host.Outcome State Fault Refusal := refuseProgramStore

/-- LDCPD Irr,r (R142). Refused: program memory is ROM (R55; U8). -/
def execLdcpd_Irr_r (_p : Tri) (_src : Nibble) (_s : State) : Host.Outcome State Fault Refusal := refuseProgramStore

/-- LDCPI Irr,r (R143). Refused: program memory is ROM (R55; U8). -/
def execLdcpi_Irr_r (_p : Tri) (_src : Nibble) (_s : State) : Host.Outcome State Fault Refusal := refuseProgramStore

/-- LDE Irr,r (R133). -/
def execLde_Irr_r (p : Tri) (src : Nibble) (s : State) : Host.Outcome State Fault Refusal := finish (s.storeData p 0#16 src)

/-- LDE XS[rr],r (R135). -/
def execLde_XS_r (p : Tri) (xs : Byte) (src : Nibble) (s : State) : Host.Outcome State Fault Refusal :=
  finish (s.storeData p (sext16 xs) src)

/-- LDE XL[rr],r (R137). -/
def execLde_XL_r (p : Tri) (xl : Word) (src : Nibble) (s : State) : Host.Outcome State Fault Refusal :=
  finish (s.storeData p xl src)

/-- LDE DA,r (R139). -/
def execLde_DA_r (da : Word) (src : Nibble) (s : State) : Host.Outcome State Fault Refusal :=
  finish do
    let v ← s.readWork src
    s.dataWrite da v

/-- LDEPD Irr,r (R142). -/
def execLdepd_Irr_r (p : Tri) (src : Nibble) (s : State) : Host.Outcome State Fault Refusal :=
  finish (s.stepStoreData p 0xFFFF#16 src)

/-- LDEPI Irr,r (R143). -/
def execLdepi_Irr_r (p : Tri) (src : Nibble) (s : State) : Host.Outcome State Fault Refusal :=
  finish (s.stepStoreData p 1#16 src)

/-! ## Words (40_load.md R144) -/

/-- A word loaded into a register pair, high byte first. -/
def State.loadWord (s : State) (dst : Byte) (w : Word) : Res State :=
  evenOr dst .oddPair (s.writeTwo (s.dstReg dst) (s.dstReg (dst + 1#8)) (hiByte w) (loByte w))

/-- LDW RR,RR (R144). -/
def execLdw_RR_RR (dst : Byte) (src : Byte) (s : State) : Host.Outcome State Fault Refusal :=
  finish do
    let w ← s.readRegPair src
    s.loadWord dst w

/-- LDW RR,IR (R144). -/
def execLdw_RR_IR (dst : Byte) (src : Byte) (s : State) : Host.Outcome State Fault Refusal :=
  finish do
    let p ← s.readReg src
    let w ← s.readIndPair p
    s.loadWord dst w

/-- LDW RR,IML (R144). -/
def execLdw_RR_IML (dst : Byte) (iml : Word) (s : State) : Host.Outcome State Fault Refusal := finish (s.loadWord dst iml)

/-! ## The system stack (40_load.md R145, R148) -/

/-- POP R (R145). POP SPL is not defined by the rules: SPL gets a free byte (U11, log 12). -/
def execPop_R (dst : Byte) (s : State) : Host.Outcome State Fault Refusal :=
  finish do
    let (v, s1) ← s.pop8
    let l := s.dstReg dst
    s1.writeLoc l (if l = .sys .spl then s.drawByte .overlap else v)

/-- POP IR (R145). -/
def execPop_IR (dst : Byte) (s : State) : Host.Outcome State Fault Refusal :=
  finish do
    let (v, s1) ← s.pop8
    let l ← s1.dstRegInd dst
    s1.writeLoc l v

/-- PUSH R (R148): the value is read before SP changes. -/
def execPush_R (src : Byte) (s : State) : Host.Outcome State Fault Refusal :=
  finish do
    let v ← s.readReg src
    s.push8 v

/-- PUSH IR (R148). -/
def execPush_IR (src : Byte) (s : State) : Host.Outcome State Fault Refusal :=
  finish do
    let v ← s.readRegInd src
    s.push8 v

/-! ## User stacks (40_load.md R146, R147, R149, R150) -/

/-- A pop from a user stack whose pointer then moves by delta. Where the data register is the pointer itself the order of the two
writes is not known: it gets a free byte (U11, log 12). -/
def State.userPop (s : State) (dst src : Byte) (delta : Byte) : Res State := do
  let p ← s.readReg src
  let v ← s.readInd p
  if s.dstReg dst = s.dstReg src then s.writeLoc (s.dstReg dst) (s.drawByte .overlap)
  else do
    let s1 ← s.writeLoc (s.dstReg dst) v
    s1.writeLoc (s.dstReg src) (p + delta)

/-- A push onto a user stack whose pointer first moves by delta. Where the data register is the pointer itself the byte stored is free
(U11, log 12). -/
def State.userPush (s : State) (dst src : Byte) (delta : Byte) : Res State := do
  let v ← s.readReg src
  let q ← s.readReg dst
  let s1 ← s.writeLoc (s.dstReg dst) (q + delta)
  s1.writeLoc (s.dstInd (q + delta)) (if s.dstReg dst = s.dstReg src then s.drawByte .overlap else v)

/-- POPUD R,IR (R146). -/
def execPopud_R_IR (dst : Byte) (src : Byte) (s : State) : Host.Outcome State Fault Refusal :=
  finish (s.userPop dst src 0xFF#8)

/-- POPUI R,IR (R147). -/
def execPopui_R_IR (dst : Byte) (src : Byte) (s : State) : Host.Outcome State Fault Refusal := finish (s.userPop dst src 1#8)

/-- PUSHUD IR,R (R149). -/
def execPushud_IR_R (dst : Byte) (src : Byte) (s : State) : Host.Outcome State Fault Refusal :=
  finish (s.userPush dst src 0xFF#8)

/-- PUSHUI IR,R (R150). -/
def execPushui_IR_R (dst : Byte) (src : Byte) (s : State) : Host.Outcome State Fault Refusal :=
  finish (s.userPush dst src 1#8)

end Sys2Proof.Machine
end

