-- ==== Sys2Proof/Machine/Logic.lean ====
section
/-! DEFINITION. The logic instructions (42_logic.md). -/

namespace Sys2Proof.Machine

/-- AND r,r (R190, R172). -/
def execAnd_r_r (dst : Nibble) (src : Nibble) (s : State) : Host.Outcome State Fault Refusal :=
  finish (s.alu_r_r (fun a b => logicResult (a &&& b)) dst src)

/-- AND r,Ir (R190, R172). -/
def execAnd_r_Ir (dst : Nibble) (src : Nibble) (s : State) : Host.Outcome State Fault Refusal :=
  finish (s.alu_r_Ir (fun a b => logicResult (a &&& b)) dst src)

/-- AND R,R (R190, R172). -/
def execAnd_R_R (dst : Byte) (src : Byte) (s : State) : Host.Outcome State Fault Refusal :=
  finish (s.alu_R_R (fun a b => logicResult (a &&& b)) dst src)

/-- AND R,IR (R190, R172). -/
def execAnd_R_IR (dst : Byte) (src : Byte) (s : State) : Host.Outcome State Fault Refusal :=
  finish (s.alu_R_IR (fun a b => logicResult (a &&& b)) dst src)

/-- AND R,IM (R190, R172). -/
def execAnd_R_IM (dst : Byte) (im : Byte) (s : State) : Host.Outcome State Fault Refusal :=
  finish (s.alu_R_IM (fun a b => logicResult (a &&& b)) dst im)

/-- OR r,r (R191, R172). -/
def execOr_r_r (dst : Nibble) (src : Nibble) (s : State) : Host.Outcome State Fault Refusal :=
  finish (s.alu_r_r (fun a b => logicResult (a ||| b)) dst src)

/-- OR r,Ir (R191, R172). -/
def execOr_r_Ir (dst : Nibble) (src : Nibble) (s : State) : Host.Outcome State Fault Refusal :=
  finish (s.alu_r_Ir (fun a b => logicResult (a ||| b)) dst src)

/-- OR R,R (R191, R172). -/
def execOr_R_R (dst : Byte) (src : Byte) (s : State) : Host.Outcome State Fault Refusal :=
  finish (s.alu_R_R (fun a b => logicResult (a ||| b)) dst src)

/-- OR R,IR (R191, R172). -/
def execOr_R_IR (dst : Byte) (src : Byte) (s : State) : Host.Outcome State Fault Refusal :=
  finish (s.alu_R_IR (fun a b => logicResult (a ||| b)) dst src)

/-- OR R,IM (R191, R172). -/
def execOr_R_IM (dst : Byte) (im : Byte) (s : State) : Host.Outcome State Fault Refusal :=
  finish (s.alu_R_IM (fun a b => logicResult (a ||| b)) dst im)

/-- XOR r,r (R192, R172). -/
def execXor_r_r (dst : Nibble) (src : Nibble) (s : State) : Host.Outcome State Fault Refusal :=
  finish (s.alu_r_r (fun a b => logicResult (a ^^^ b)) dst src)

/-- XOR r,Ir (R192, R172). -/
def execXor_r_Ir (dst : Nibble) (src : Nibble) (s : State) : Host.Outcome State Fault Refusal :=
  finish (s.alu_r_Ir (fun a b => logicResult (a ^^^ b)) dst src)

/-- XOR R,R (R192, R172). -/
def execXor_R_R (dst : Byte) (src : Byte) (s : State) : Host.Outcome State Fault Refusal :=
  finish (s.alu_R_R (fun a b => logicResult (a ^^^ b)) dst src)

/-- XOR R,IR (R192, R172). -/
def execXor_R_IR (dst : Byte) (src : Byte) (s : State) : Host.Outcome State Fault Refusal :=
  finish (s.alu_R_IR (fun a b => logicResult (a ^^^ b)) dst src)

/-- XOR R,IM (R192, R172). -/
def execXor_R_IM (dst : Byte) (im : Byte) (s : State) : Host.Outcome State Fault Refusal :=
  finish (s.alu_R_IM (fun a b => logicResult (a ^^^ b)) dst im)

/-- COM R (R193). -/
def execCom_R (dst : Byte) (s : State) : Host.Outcome State Fault Refusal :=
  finish (s.unary_R (fun a => logicResult (~~~a)) dst)

/-- COM IR (R193). -/
def execCom_IR (dst : Byte) (s : State) : Host.Outcome State Fault Refusal :=
  finish (s.unary_IR (fun a => logicResult (~~~a)) dst)

end Sys2Proof.Machine
end

