-- ==== Sys2Proof/Machine/ProgramControl.lean ====
section
/-! DEFINITION. The program-control instructions (43_program_control.md). On entry pc is past the instruction (10_state.md R21). -/

namespace Sys2Proof.Machine

/-- BTJRF RA,rb (R200). -/
def execBtjrf_RA_rb (ra : Byte) (src : Nibble) (b : Tri) (s : State) : Host.Outcome State Fault Refusal :=
  finish do
    let x ← s.readWork src
    return s.jumpIf (!bitAt x b) ra

/-- BTJRT RA,rb (R201). -/
def execBtjrt_RA_rb (ra : Byte) (src : Nibble) (b : Tri) (s : State) : Host.Outcome State Fault Refusal :=
  finish do
    let x ← s.readWork src
    return s.jumpIf (bitAt x b) ra

/-- CALL DA (R202). -/
def execCall_DA (da : Word) (s : State) : Host.Outcome State Fault Refusal := finish (s.callTo da)

/-- CALL IRR (R202): the target is read before the pushes. -/
def execCall_IRR (dst : Byte) (s : State) : Host.Outcome State Fault Refusal :=
  finish do
    let target ← s.readRegPair dst
    s.callTo target

/-- CALL IA (R202, R203): the target is a table entry at 00H :: ia, high byte first. -/
def execCall_IA (ia : Byte) (s : State) : Host.Outcome State Fault Refusal :=
  finish (evenOr ia .oddTableAddress do
    let target ← s.progRead16 (zext16 ia)
    s.callTo target)

/-- RET (R212). -/
def execRet (s : State) : Host.Outcome State Fault Refusal :=
  finish do
    let (target, s1) ← s.pop16
    return s1.setPc target

/-- Compare with `RegI[ r[src] ]`, increment the pointer, jump where the comparison answers `want` (R204, R205). -/
def State.compareAndStep (s : State) (want : Bool) (dst src : Nibble) (ra : Byte) : Res State := do
  let p ← s.readWork src
  let v ← s.readInd p
  let x ← s.readWork dst
  let s1 ← s.writeLoc (s.dstWork src) (p + 1#8)
  return s1.jumpIf ((x == v) == want) ra

/-- CPIJE r,Ir,RA (R204). -/
def execCpije_r_Ir_RA (dst : Nibble) (src : Nibble) (ra : Byte) (s : State) : Host.Outcome State Fault Refusal :=
  finish (s.compareAndStep true dst src ra)

/-- CPIJNE r,Ir,RA (R205). -/
def execCpijne_r_Ir_RA (dst : Nibble) (src : Nibble) (ra : Byte) (s : State) : Host.Outcome State Fault Refusal :=
  finish (s.compareAndStep false dst src ra)

/-- DJNZ r,RA (R206), for any place of the counter (R334; log 23). MODEL'S CHOICE (DESIGN CHOICE, log 48): the jump tests the byte
computed, not the register read back, which differs where the counter lies in a register that ignores or masks a write or is volatile. -/
def execDjnz_r_RA (n : Nibble) (ra : Byte) (s : State) : Host.Outcome State Fault Refusal :=
  finish do
    let a ← s.readWork n
    let s1 ← s.writeLoc (s.dstWork n) (a - 1#8)
    return s1.jumpIf (a - 1#8 != 0#8) ra

/-- JP cc,DA (R207). -/
def execJp_cc_DA (cc : Cond) (da : Word) (s : State) : Host.Outcome State Fault Refusal :=
  .next (if condHolds s.flags cc then s.setPc da else s)

/-- JP IRR (R207). -/
def execJp_IRR (dst : Byte) (s : State) : Host.Outcome State Fault Refusal :=
  finish do
    let target ← s.readRegPair dst
    return s.setPc target

/-- JR cc,RA (R211). -/
def execJr_cc_RA (cc : Cond) (ra : Byte) (s : State) : Host.Outcome State Fault Refusal :=
  .next (s.jumpIf (condHolds s.flags cc) ra)

/-- The walk along the list IP points to: PC from the entry at w, IP to the entry after it (R208 to R210). -/
def State.threadTo (s : State) (w : Word) : Res State := do
  let target ← s.progRead16 w
  return (s.putIp (w + 2#16)).setPc target

/-- ENTER (R208): IP pushed, the list after the instruction entered. -/
def execEnter (s : State) : Host.Outcome State Fault Refusal :=
  finish do
    let s1 ← s.push16 s.ip
    s1.threadTo s.pc

/-- EXIT (R209): IP popped, its list gone on with. -/
def execExit (s : State) : Host.Outcome State Fault Refusal :=
  finish do
    let (w, s1) ← s.pop16
    s1.threadTo w

/-- NEXT (R210). -/
def execNext (s : State) : Host.Outcome State Fault Refusal := finish (s.threadTo s.ip)

/-- IRET (R213). -/
def execIret (s : State) : Host.Outcome State Fault Refusal := finish s.returnFromInterrupt

/-- WFI (R214): the core waits until a request is accepted. -/
def execWfi (s : State) : Host.Outcome State Fault Refusal := .next (s.setWaiting true)

end Sys2Proof.Machine
end

