-- ==== Sys2Proof/Machine/RotateShift.lean ====
section
/-! DEFINITION. The rotate and shift instructions (45_rotate_shift.md). -/

namespace Sys2Proof.Machine

/-- RL R (R250). -/
def execRl_R (dst : Byte) (s : State) : Host.Outcome State Fault Refusal := finish (s.unary_R rlResult dst)

/-- RL IR (R250). -/
def execRl_IR (dst : Byte) (s : State) : Host.Outcome State Fault Refusal := finish (s.unary_IR rlResult dst)

/-- RLC R (R251). -/
def execRlc_R (dst : Byte) (s : State) : Host.Outcome State Fault Refusal := finish (s.unary_R (rlcResult (s.flag .c)) dst)

/-- RLC IR (R251). -/
def execRlc_IR (dst : Byte) (s : State) : Host.Outcome State Fault Refusal := finish (s.unary_IR (rlcResult (s.flag .c)) dst)

/-- RR R (R252). -/
def execRr_R (dst : Byte) (s : State) : Host.Outcome State Fault Refusal := finish (s.unary_R rrResult dst)

/-- RR IR (R252). -/
def execRr_IR (dst : Byte) (s : State) : Host.Outcome State Fault Refusal := finish (s.unary_IR rrResult dst)

/-- RRC R (R253). -/
def execRrc_R (dst : Byte) (s : State) : Host.Outcome State Fault Refusal := finish (s.unary_R (rrcResult (s.flag .c)) dst)

/-- RRC IR (R253). -/
def execRrc_IR (dst : Byte) (s : State) : Host.Outcome State Fault Refusal := finish (s.unary_IR (rrcResult (s.flag .c)) dst)

/-- SRA R (R254). -/
def execSra_R (dst : Byte) (s : State) : Host.Outcome State Fault Refusal := finish (s.unary_R sraResult dst)

/-- SRA IR (R254). -/
def execSra_IR (dst : Byte) (s : State) : Host.Outcome State Fault Refusal := finish (s.unary_IR sraResult dst)

/-- SWAP R (R255). -/
def execSwap_R (dst : Byte) (s : State) : Host.Outcome State Fault Refusal :=
  finish (s.unary_R (swapResult (s.drawBit .carryFlag) (s.drawBit .overflowFlag)) dst)

/-- SWAP IR (R255). -/
def execSwap_IR (dst : Byte) (s : State) : Host.Outcome State Fault Refusal :=
  finish (s.unary_IR (swapResult (s.drawBit .carryFlag) (s.drawBit .overflowFlag)) dst)

end Sys2Proof.Machine
end

