-- ==== Sys2Proof/Machine/Dispatch.lean ====
section
/-! DEFINITION. The meaning of every instruction: one arm a constructor, in the order of spec/opcode_table.json. -/

namespace Sys2Proof.Machine

def exec (i : Instr) (s : State) : Host.Outcome State Fault Refusal :=
  match i with
  | .add_r_r dst src => Sys2Proof.Machine.execAdd_r_r dst src s
  | .add_r_Ir dst src => Sys2Proof.Machine.execAdd_r_Ir dst src s
  | .add_R_R dst src => Sys2Proof.Machine.execAdd_R_R dst src s
  | .add_R_IR dst src => Sys2Proof.Machine.execAdd_R_IR dst src s
  | .add_R_IM dst im => Sys2Proof.Machine.execAdd_R_IM dst im s
  | .adc_r_r dst src => Sys2Proof.Machine.execAdc_r_r dst src s
  | .adc_r_Ir dst src => Sys2Proof.Machine.execAdc_r_Ir dst src s
  | .adc_R_R dst src => Sys2Proof.Machine.execAdc_R_R dst src s
  | .adc_R_IR dst src => Sys2Proof.Machine.execAdc_R_IR dst src s
  | .adc_R_IM dst im => Sys2Proof.Machine.execAdc_R_IM dst im s
  | .sub_r_r dst src => Sys2Proof.Machine.execSub_r_r dst src s
  | .sub_r_Ir dst src => Sys2Proof.Machine.execSub_r_Ir dst src s
  | .sub_R_R dst src => Sys2Proof.Machine.execSub_R_R dst src s
  | .sub_R_IR dst src => Sys2Proof.Machine.execSub_R_IR dst src s
  | .sub_R_IM dst im => Sys2Proof.Machine.execSub_R_IM dst im s
  | .sbc_r_r dst src => Sys2Proof.Machine.execSbc_r_r dst src s
  | .sbc_r_Ir dst src => Sys2Proof.Machine.execSbc_r_Ir dst src s
  | .sbc_R_R dst src => Sys2Proof.Machine.execSbc_R_R dst src s
  | .sbc_R_IR dst src => Sys2Proof.Machine.execSbc_R_IR dst src s
  | .sbc_R_IM dst im => Sys2Proof.Machine.execSbc_R_IM dst im s
  | .or_r_r dst src => Sys2Proof.Machine.execOr_r_r dst src s
  | .or_r_Ir dst src => Sys2Proof.Machine.execOr_r_Ir dst src s
  | .or_R_R dst src => Sys2Proof.Machine.execOr_R_R dst src s
  | .or_R_IR dst src => Sys2Proof.Machine.execOr_R_IR dst src s
  | .or_R_IM dst im => Sys2Proof.Machine.execOr_R_IM dst im s
  | .and_r_r dst src => Sys2Proof.Machine.execAnd_r_r dst src s
  | .and_r_Ir dst src => Sys2Proof.Machine.execAnd_r_Ir dst src s
  | .and_R_R dst src => Sys2Proof.Machine.execAnd_R_R dst src s
  | .and_R_IR dst src => Sys2Proof.Machine.execAnd_R_IR dst src s
  | .and_R_IM dst im => Sys2Proof.Machine.execAnd_R_IM dst im s
  | .tcm_r_r dst src => Sys2Proof.Machine.execTcm_r_r dst src s
  | .tcm_r_Ir dst src => Sys2Proof.Machine.execTcm_r_Ir dst src s
  | .tcm_R_R dst src => Sys2Proof.Machine.execTcm_R_R dst src s
  | .tcm_R_IR dst src => Sys2Proof.Machine.execTcm_R_IR dst src s
  | .tcm_R_IM dst im => Sys2Proof.Machine.execTcm_R_IM dst im s
  | .tm_r_r dst src => Sys2Proof.Machine.execTm_r_r dst src s
  | .tm_r_Ir dst src => Sys2Proof.Machine.execTm_r_Ir dst src s
  | .tm_R_R dst src => Sys2Proof.Machine.execTm_R_R dst src s
  | .tm_R_IR dst src => Sys2Proof.Machine.execTm_R_IR dst src s
  | .tm_R_IM dst im => Sys2Proof.Machine.execTm_R_IM dst im s
  | .cp_r_r dst src => Sys2Proof.Machine.execCp_r_r dst src s
  | .cp_r_Ir dst src => Sys2Proof.Machine.execCp_r_Ir dst src s
  | .cp_R_R dst src => Sys2Proof.Machine.execCp_R_R dst src s
  | .cp_R_IR dst src => Sys2Proof.Machine.execCp_R_IR dst src s
  | .cp_R_IM dst im => Sys2Proof.Machine.execCp_R_IM dst im s
  | .xor_r_r dst src => Sys2Proof.Machine.execXor_r_r dst src s
  | .xor_r_Ir dst src => Sys2Proof.Machine.execXor_r_Ir dst src s
  | .xor_R_R dst src => Sys2Proof.Machine.execXor_R_R dst src s
  | .xor_R_IR dst src => Sys2Proof.Machine.execXor_R_IR dst src s
  | .xor_R_IM dst im => Sys2Proof.Machine.execXor_R_IM dst im s
  | .dec_R dst => Sys2Proof.Machine.execDec_R dst s
  | .dec_IR dst => Sys2Proof.Machine.execDec_IR dst s
  | .rlc_R dst => Sys2Proof.Machine.execRlc_R dst s
  | .rlc_IR dst => Sys2Proof.Machine.execRlc_IR dst s
  | .inc_R dst => Sys2Proof.Machine.execInc_R dst s
  | .inc_IR dst => Sys2Proof.Machine.execInc_IR dst s
  | .da_R dst => Sys2Proof.Machine.execDa_R dst s
  | .da_IR dst => Sys2Proof.Machine.execDa_IR dst s
  | .pop_R dst => Sys2Proof.Machine.execPop_R dst s
  | .pop_IR dst => Sys2Proof.Machine.execPop_IR dst s
  | .com_R dst => Sys2Proof.Machine.execCom_R dst s
  | .com_IR dst => Sys2Proof.Machine.execCom_IR dst s
  | .push_R src => Sys2Proof.Machine.execPush_R src s
  | .push_IR src => Sys2Proof.Machine.execPush_IR src s
  | .rl_R dst => Sys2Proof.Machine.execRl_R dst s
  | .rl_IR dst => Sys2Proof.Machine.execRl_IR dst s
  | .clr_R dst => Sys2Proof.Machine.execClr_R dst s
  | .clr_IR dst => Sys2Proof.Machine.execClr_IR dst s
  | .rrc_R dst => Sys2Proof.Machine.execRrc_R dst s
  | .rrc_IR dst => Sys2Proof.Machine.execRrc_IR dst s
  | .sra_R dst => Sys2Proof.Machine.execSra_R dst s
  | .sra_IR dst => Sys2Proof.Machine.execSra_IR dst s
  | .rr_R dst => Sys2Proof.Machine.execRr_R dst s
  | .rr_IR dst => Sys2Proof.Machine.execRr_IR dst s
  | .swap_R dst => Sys2Proof.Machine.execSwap_R dst s
  | .swap_IR dst => Sys2Proof.Machine.execSwap_IR dst s
  | .decw_RR dst => Sys2Proof.Machine.execDecw_RR dst s
  | .decw_IR dst => Sys2Proof.Machine.execDecw_IR dst s
  | .incw_RR dst => Sys2Proof.Machine.execIncw_RR dst s
  | .incw_IR dst => Sys2Proof.Machine.execIncw_IR dst s
  | .inc_r dst => Sys2Proof.Machine.execInc_r dst s
  | .jp_IRR dst => Sys2Proof.Machine.execJp_IRR dst s
  | .srp_IM im x => Sys2Proof.Machine.execSrp_IM im x s
  | .srp0_IM im x => Sys2Proof.Machine.execSrp0_IM im x s
  | .srp1_IM im x => Sys2Proof.Machine.execSrp1_IM im x s
  | .pushud_IR_R dst src => Sys2Proof.Machine.execPushud_IR_R dst src s
  | .pushui_IR_R dst src => Sys2Proof.Machine.execPushui_IR_R dst src s
  | .popud_R_IR dst src => Sys2Proof.Machine.execPopud_R_IR dst src s
  | .popui_R_IR dst src => Sys2Proof.Machine.execPopui_R_IR dst src s
  | .cpije_r_Ir_RA dst src ra => Sys2Proof.Machine.execCpije_r_Ir_RA dst src ra s
  | .cpijne_r_Ir_RA dst src ra => Sys2Proof.Machine.execCpijne_r_Ir_RA dst src ra s
  | .ldc_r_Irr dst p => Sys2Proof.Machine.execLdc_r_Irr dst p s
  | .lde_r_Irr dst p => Sys2Proof.Machine.execLde_r_Irr dst p s
  | .ldc_Irr_r p src => Sys2Proof.Machine.execLdc_Irr_r p src s
  | .lde_Irr_r p src => Sys2Proof.Machine.execLde_Irr_r p src s
  | .ldcd_r_Irr dst p => Sys2Proof.Machine.execLdcd_r_Irr dst p s
  | .lded_r_Irr dst p => Sys2Proof.Machine.execLded_r_Irr dst p s
  | .ldci_r_Irr dst p => Sys2Proof.Machine.execLdci_r_Irr dst p s
  | .ldei_r_Irr dst p => Sys2Proof.Machine.execLdei_r_Irr dst p s
  | .ldcpd_Irr_r p src => Sys2Proof.Machine.execLdcpd_Irr_r p src s
  | .ldepd_Irr_r p src => Sys2Proof.Machine.execLdepd_Irr_r p src s
  | .ldcpi_Irr_r p src => Sys2Proof.Machine.execLdcpi_Irr_r p src s
  | .ldepi_Irr_r p src => Sys2Proof.Machine.execLdepi_Irr_r p src s
  | .ldc_r_XS dst p xs => Sys2Proof.Machine.execLdc_r_XS dst p xs s
  | .lde_r_XS dst p xs => Sys2Proof.Machine.execLde_r_XS dst p xs s
  | .ldc_XS_r p xs src => Sys2Proof.Machine.execLdc_XS_r p xs src s
  | .lde_XS_r p xs src => Sys2Proof.Machine.execLde_XS_r p xs src s
  | .ldc_r_XL dst p xl => Sys2Proof.Machine.execLdc_r_XL dst p xl s
  | .ldc_XL_r p xl src => Sys2Proof.Machine.execLdc_XL_r p xl src s
  | .ldc_r_DA dst da => Sys2Proof.Machine.execLdc_r_DA dst da s
  | .ldc_DA_r da src => Sys2Proof.Machine.execLdc_DA_r da src s
  | .lde_r_XL dst p xl => Sys2Proof.Machine.execLde_r_XL dst p xl s
  | .lde_XL_r p xl src => Sys2Proof.Machine.execLde_XL_r p xl src s
  | .lde_r_DA dst da => Sys2Proof.Machine.execLde_r_DA dst da s
  | .lde_DA_r da src => Sys2Proof.Machine.execLde_DA_r da src s
  | .mult_RR_R dst src => Sys2Proof.Machine.execMult_RR_R dst src s
  | .mult_RR_IR dst src => Sys2Proof.Machine.execMult_RR_IR dst src s
  | .mult_RR_IM dst im => Sys2Proof.Machine.execMult_RR_IM dst im s
  | .div_RR_R dst src => Sys2Proof.Machine.execDiv_RR_R dst src s
  | .div_RR_IR dst src => Sys2Proof.Machine.execDiv_RR_IR dst src s
  | .div_RR_IM dst im => Sys2Proof.Machine.execDiv_RR_IM dst im s
  | .ldw_RR_RR dst src => Sys2Proof.Machine.execLdw_RR_RR dst src s
  | .ldw_RR_IR dst src => Sys2Proof.Machine.execLdw_RR_IR dst src s
  | .ldw_RR_IML dst iml => Sys2Proof.Machine.execLdw_RR_IML dst iml s
  | .call_IA ia => Sys2Proof.Machine.execCall_IA ia s
  | .call_IRR dst => Sys2Proof.Machine.execCall_IRR dst s
  | .call_DA da => Sys2Proof.Machine.execCall_DA da s
  | .ld_IR_IM dst im => Sys2Proof.Machine.execLd_IR_IM dst im s
  | .ld_R_R dst src => Sys2Proof.Machine.execLd_R_R dst src s
  | .ld_R_IR dst src => Sys2Proof.Machine.execLd_R_IR dst src s
  | .ld_R_IM dst im => Sys2Proof.Machine.execLd_R_IM dst im s
  | .ld_IR_R dst src => Sys2Proof.Machine.execLd_IR_R dst src s
  | .ld_r_X dst x idx => Sys2Proof.Machine.execLd_r_X dst x idx s
  | .ld_X_r x idx src => Sys2Proof.Machine.execLd_X_r x idx src s
  | .ld_r_Ir dst src => Sys2Proof.Machine.execLd_r_Ir dst src s
  | .ld_Ir_r dst src => Sys2Proof.Machine.execLd_Ir_r dst src s
  | .ld_r_R dst src => Sys2Proof.Machine.execLd_r_R dst src s
  | .ld_R_r dst src => Sys2Proof.Machine.execLd_R_r dst src s
  | .djnz_r_RA n ra => Sys2Proof.Machine.execDjnz_r_RA n ra s
  | .jr_cc_RA cc ra => Sys2Proof.Machine.execJr_cc_RA cc ra s
  | .ld_r_IM dst im => Sys2Proof.Machine.execLd_r_IM dst im s
  | .jp_cc_DA cc da => Sys2Proof.Machine.execJp_cc_DA cc da s
  | .bor_r0_Rb dst src b => Sys2Proof.Machine.execBor_r0_Rb dst src b s
  | .bor_Rb_r0 dst b src => Sys2Proof.Machine.execBor_Rb_r0 dst b src s
  | .bcp_r0_Rb dst src b => Sys2Proof.Machine.execBcp_r0_Rb dst src b s
  | .bxor_r0_Rb dst src b => Sys2Proof.Machine.execBxor_r0_Rb dst src b s
  | .bxor_Rb_r0 dst b src => Sys2Proof.Machine.execBxor_Rb_r0 dst b src s
  | .btjrf_RA_rb ra src b => Sys2Proof.Machine.execBtjrf_RA_rb ra src b s
  | .btjrt_RA_rb ra src b => Sys2Proof.Machine.execBtjrt_RA_rb ra src b s
  | .ldb_r0_Rb dst src b => Sys2Proof.Machine.execLdb_r0_Rb dst src b s
  | .ldb_Rb_r0 dst b src => Sys2Proof.Machine.execLdb_Rb_r0 dst b src s
  | .bitc_rb dst b => Sys2Proof.Machine.execBitc_rb dst b s
  | .band_r0_Rb dst src b => Sys2Proof.Machine.execBand_r0_Rb dst src b s
  | .band_Rb_r0 dst b src => Sys2Proof.Machine.execBand_Rb_r0 dst b src s
  | .bitr_rb dst b => Sys2Proof.Machine.execBitr_rb dst b s
  | .bits_rb dst b => Sys2Proof.Machine.execBits_rb dst b s
  | .next => Sys2Proof.Machine.execNext s
  | .enter => Sys2Proof.Machine.execEnter s
  | .exit => Sys2Proof.Machine.execExit s
  | .wfi => Sys2Proof.Machine.execWfi s
  | .sb0 => Sys2Proof.Machine.execSb0 s
  | .sb1 => Sys2Proof.Machine.execSb1 s
  | .idle => Sys2Proof.Machine.execIdle s
  | .stop => Sys2Proof.Machine.execStop s
  | .di => Sys2Proof.Machine.execDi s
  | .ei => Sys2Proof.Machine.execEi s
  | .ret => Sys2Proof.Machine.execRet s
  | .iret => Sys2Proof.Machine.execIret s
  | .rcf => Sys2Proof.Machine.execRcf s
  | .scf => Sys2Proof.Machine.execScf s
  | .ccf => Sys2Proof.Machine.execCcf s
  | .nop => Sys2Proof.Machine.execNop s

end Sys2Proof.Machine
end

