-- ==== Sys2Proof/WellFormed.lean ====
section
/-! DEFINITION. Which terms of `Instr` stand for an instruction the encoding has: register-pair operands and CALL IA operands are even
(10_state.md R16; 20_memory.md R60; 30_encoding.md R88), and pair RR0 is no index of an XL form (30_encoding.md R87). -/

namespace Sys2Proof

/-- An even register-pair address or table address (10_state.md R16; 30_encoding.md R85, IA). -/
def evenByte (a : Byte) : Bool := !a.getLsbD 0

/-- Whether the encoding tables have a code for this term. -/
def Instr.wellFormed : Instr → Bool
  | .add_r_r _ _ => true
  | .add_r_Ir _ _ => true
  | .add_R_R _ _ => true
  | .add_R_IR _ _ => true
  | .add_R_IM _ _ => true
  | .adc_r_r _ _ => true
  | .adc_r_Ir _ _ => true
  | .adc_R_R _ _ => true
  | .adc_R_IR _ _ => true
  | .adc_R_IM _ _ => true
  | .sub_r_r _ _ => true
  | .sub_r_Ir _ _ => true
  | .sub_R_R _ _ => true
  | .sub_R_IR _ _ => true
  | .sub_R_IM _ _ => true
  | .sbc_r_r _ _ => true
  | .sbc_r_Ir _ _ => true
  | .sbc_R_R _ _ => true
  | .sbc_R_IR _ _ => true
  | .sbc_R_IM _ _ => true
  | .or_r_r _ _ => true
  | .or_r_Ir _ _ => true
  | .or_R_R _ _ => true
  | .or_R_IR _ _ => true
  | .or_R_IM _ _ => true
  | .and_r_r _ _ => true
  | .and_r_Ir _ _ => true
  | .and_R_R _ _ => true
  | .and_R_IR _ _ => true
  | .and_R_IM _ _ => true
  | .tcm_r_r _ _ => true
  | .tcm_r_Ir _ _ => true
  | .tcm_R_R _ _ => true
  | .tcm_R_IR _ _ => true
  | .tcm_R_IM _ _ => true
  | .tm_r_r _ _ => true
  | .tm_r_Ir _ _ => true
  | .tm_R_R _ _ => true
  | .tm_R_IR _ _ => true
  | .tm_R_IM _ _ => true
  | .cp_r_r _ _ => true
  | .cp_r_Ir _ _ => true
  | .cp_R_R _ _ => true
  | .cp_R_IR _ _ => true
  | .cp_R_IM _ _ => true
  | .xor_r_r _ _ => true
  | .xor_r_Ir _ _ => true
  | .xor_R_R _ _ => true
  | .xor_R_IR _ _ => true
  | .xor_R_IM _ _ => true
  | .dec_R _ => true
  | .dec_IR _ => true
  | .rlc_R _ => true
  | .rlc_IR _ => true
  | .inc_R _ => true
  | .inc_IR _ => true
  | .da_R _ => true
  | .da_IR _ => true
  | .pop_R _ => true
  | .pop_IR _ => true
  | .com_R _ => true
  | .com_IR _ => true
  | .push_R _ => true
  | .push_IR _ => true
  | .rl_R _ => true
  | .rl_IR _ => true
  | .clr_R _ => true
  | .clr_IR _ => true
  | .rrc_R _ => true
  | .rrc_IR _ => true
  | .sra_R _ => true
  | .sra_IR _ => true
  | .rr_R _ => true
  | .rr_IR _ => true
  | .swap_R _ => true
  | .swap_IR _ => true
  | .decw_RR dst => evenByte dst
  | .decw_IR _ => true
  | .incw_RR dst => evenByte dst
  | .incw_IR _ => true
  | .inc_r _ => true
  | .jp_IRR dst => evenByte dst
  | .srp_IM _ _ => true
  | .srp0_IM _ _ => true
  | .srp1_IM _ _ => true
  | .pushud_IR_R _ _ => true
  | .pushui_IR_R _ _ => true
  | .popud_R_IR _ _ => true
  | .popui_R_IR _ _ => true
  | .cpije_r_Ir_RA _ _ _ => true
  | .cpijne_r_Ir_RA _ _ _ => true
  | .ldc_r_Irr _ _ => true
  | .lde_r_Irr _ _ => true
  | .ldc_Irr_r _ _ => true
  | .lde_Irr_r _ _ => true
  | .ldcd_r_Irr _ _ => true
  | .lded_r_Irr _ _ => true
  | .ldci_r_Irr _ _ => true
  | .ldei_r_Irr _ _ => true
  | .ldcpd_Irr_r _ _ => true
  | .ldepd_Irr_r _ _ => true
  | .ldcpi_Irr_r _ _ => true
  | .ldepi_Irr_r _ _ => true
  | .ldc_r_XS _ _ _ => true
  | .lde_r_XS _ _ _ => true
  | .ldc_XS_r _ _ _ => true
  | .lde_XS_r _ _ _ => true
  | .ldc_r_XL _ p _ => p != 0#3
  | .ldc_XL_r p _ _ => p != 0#3
  | .ldc_r_DA _ _ => true
  | .ldc_DA_r _ _ => true
  | .lde_r_XL _ p _ => p != 0#3
  | .lde_XL_r p _ _ => p != 0#3
  | .lde_r_DA _ _ => true
  | .lde_DA_r _ _ => true
  | .mult_RR_R dst _ => evenByte dst
  | .mult_RR_IR dst _ => evenByte dst
  | .mult_RR_IM dst _ => evenByte dst
  | .div_RR_R dst _ => evenByte dst
  | .div_RR_IR dst _ => evenByte dst
  | .div_RR_IM dst _ => evenByte dst
  | .ldw_RR_RR dst src => evenByte src && evenByte dst
  | .ldw_RR_IR dst _ => evenByte dst
  | .ldw_RR_IML dst _ => evenByte dst
  | .call_IA ia => evenByte ia
  | .call_IRR dst => evenByte dst
  | .call_DA _ => true
  | .ld_IR_IM _ _ => true
  | .ld_R_R _ _ => true
  | .ld_R_IR _ _ => true
  | .ld_R_IM _ _ => true
  | .ld_IR_R _ _ => true
  | .ld_r_X _ _ _ => true
  | .ld_X_r _ _ _ => true
  | .ld_r_Ir _ _ => true
  | .ld_Ir_r _ _ => true
  | .ld_r_R _ _ => true
  | .ld_R_r _ _ => true
  | .djnz_r_RA _ _ => true
  | .jr_cc_RA _ _ => true
  | .ld_r_IM _ _ => true
  | .jp_cc_DA _ _ => true
  | .bor_r0_Rb _ _ _ => true
  | .bor_Rb_r0 _ _ _ => true
  | .bcp_r0_Rb _ _ _ => true
  | .bxor_r0_Rb _ _ _ => true
  | .bxor_Rb_r0 _ _ _ => true
  | .btjrf_RA_rb _ _ _ => true
  | .btjrt_RA_rb _ _ _ => true
  | .ldb_r0_Rb _ _ _ => true
  | .ldb_Rb_r0 _ _ _ => true
  | .bitc_rb _ _ => true
  | .band_r0_Rb _ _ _ => true
  | .band_Rb_r0 _ _ _ => true
  | .bitr_rb _ _ => true
  | .bits_rb _ _ => true
  | .next => true
  | .enter => true
  | .exit => true
  | .wfi => true
  | .sb0 => true
  | .sb1 => true
  | .idle => true
  | .stop => true
  | .di => true
  | .ei => true
  | .ret => true
  | .iret => true
  | .rcf => true
  | .scf => true
  | .ccf => true
  | .nop => true

end Sys2Proof
end

