-- ==== Sys2Proof/Decode.lean ====
section
/-! DEFINITION. The decoder (30_encoding.md R81 to R88), total on any bytes and rejecting by name, the encoder from the same tables, and
the reading of a word of spec/opcode_table.json. One function a column of the opcode map R86 (the low nibble of the first byte). -/

namespace Sys2Proof

/-- Why bytes are no instruction. -/
inductive DecodeError where
  /-- First byte D5H, 31H with low bits 11B, 17H or 57H with selector 1 (30_encoding.md R88; U1 to U3). -/
  | illegalOpcode
  /-- An odd address where a register pair is required (10_state.md R16; U4). -/
  | oddPair
  /-- CALL IA with an odd operand (20_memory.md R60; U5). -/
  | oddTableAddress
  /-- The list of bytes ends inside the instruction. -/
  | truncated
  deriving DecidableEq, Repr

/-- The instruction and the bytes after it, or why there is none. -/
abbrev DecodeResult := Except DecodeError (Instr × List Byte)

/-! Fields of a byte (30_encoding.md R83). -/

/-- Bits 7..4. -/
def hiNib (b : Byte) : Nibble := b.extractLsb' 4 4

/-- Bits 3..0. -/
def loNib (b : Byte) : Nibble := b.extractLsb' 0 4

/-- Bits 3..1: a bit number, or half a pair number. -/
def midTri (b : Byte) : Tri := b.extractLsb' 1 3

/-- Bits 7..3 of the operand of SRP, SRP0, SRP1. -/
def hiFive (b : Byte) : BitVec 5 := b.extractLsb' 3 5

/-- Bit 2 of the operand of SRP, SRP0, SRP1, which the operation ignores. -/
def bitTwo (b : Byte) : BitVec 1 := b.extractLsb' 2 1

/-- The condition a 4-bit field names (30_encoding.md R84). -/
def Cond.ofCode (c : Nibble) : Cond :=
  match c.toNat with
  | 0x0 => .f | 0x1 => .lt | 0x2 => .le | 0x3 => .ule
  | 0x4 => .ov | 0x5 => .mi | 0x6 => .z | 0x7 => .c
  | 0x8 => .t | 0x9 => .ge | 0xA => .gt | 0xB => .ugt
  | 0xC => .nov | 0xD => .pl | 0xE => .nz | _ => .nc

/-- The 4-bit field of a condition (30_encoding.md R84). -/
def Cond.code : Cond → Nibble
  | .f => 0x0#4 | .lt => 0x1#4 | .le => 0x2#4 | .ule => 0x3#4
  | .ov => 0x4#4 | .mi => 0x5#4 | .z => 0x6#4 | .c => 0x7#4
  | .t => 0x8#4 | .ge => 0x9#4 | .gt => 0xA#4 | .ugt => 0xB#4
  | .nov => 0xC#4 | .pl => 0xD#4 | .nz => 0xE#4 | .nc => 0xF#4

/-- Takes one operand byte. -/
def need1 (t : List Byte) (k : Byte → List Byte → DecodeResult) : DecodeResult :=
  match t with
  | b1 :: t => k b1 t
  | [] => .error .truncated

/-- Takes two operand bytes. -/
def need2 (t : List Byte) (k : Byte → Byte → List Byte → DecodeResult) : DecodeResult :=
  need1 t fun b1 t => need1 t fun b2 t => k b1 b2 t

/-- Takes three operand bytes. -/
def need3 (t : List Byte) (k : Byte → Byte → Byte → List Byte → DecodeResult) : DecodeResult :=
  need1 t fun b1 t => need2 t fun b2 b3 t => k b1 b2 b3 t

/-- Goes on where an operand byte is even, rejects by name where it is odd (20_memory.md R60). -/
def ifEven (b : Byte) (e : DecodeError) (k : DecodeResult) : DecodeResult :=
  if evenByte b then k else .error e

/-- First bytes x0H (30_encoding.md R86, R87). -/
def decodeCol0 (hi : Nat) (t : List Byte) : DecodeResult :=
  match hi with
  | 0x0 => need1 t fun b1 t => .ok (.dec_R b1, t)
  | 0x1 => need1 t fun b1 t => .ok (.rlc_R b1, t)
  | 0x2 => need1 t fun b1 t => .ok (.inc_R b1, t)
  | 0x3 => need1 t fun b1 t => ifEven b1 .oddPair (.ok (.jp_IRR b1, t))
  | 0x4 => need1 t fun b1 t => .ok (.da_R b1, t)
  | 0x5 => need1 t fun b1 t => .ok (.pop_R b1, t)
  | 0x6 => need1 t fun b1 t => .ok (.com_R b1, t)
  | 0x7 => need1 t fun b1 t => .ok (.push_R b1, t)
  | 0x8 => need1 t fun b1 t => ifEven b1 .oddPair (.ok (.decw_RR b1, t))
  | 0x9 => need1 t fun b1 t => .ok (.rl_R b1, t)
  | 0xA => need1 t fun b1 t => ifEven b1 .oddPair (.ok (.incw_RR b1, t))
  | 0xB => need1 t fun b1 t => .ok (.clr_R b1, t)
  | 0xC => need1 t fun b1 t => .ok (.rrc_R b1, t)
  | 0xD => need1 t fun b1 t => .ok (.sra_R b1, t)
  | 0xE => need1 t fun b1 t => .ok (.rr_R b1, t)
  | 0xF => need1 t fun b1 t => .ok (.swap_R b1, t)
  | _ => .error .illegalOpcode

/-- First bytes x1H (30_encoding.md R86, R87). -/
def decodeCol1 (hi : Nat) (t : List Byte) : DecodeResult :=
  match hi with
  | 0x0 => need1 t fun b1 t => .ok (.dec_IR b1, t)
  | 0x1 => need1 t fun b1 t => .ok (.rlc_IR b1, t)
  | 0x2 => need1 t fun b1 t => .ok (.inc_IR b1, t)
  | 0x3 => need1 t fun b1 t => match (b1.extractLsb' 0 2).toNat with
      | 0 => .ok (.srp_IM (hiFive b1) (bitTwo b1), t)
      | 1 => .ok (.srp1_IM (hiFive b1) (bitTwo b1), t)
      | 2 => .ok (.srp0_IM (hiFive b1) (bitTwo b1), t)
      | _ => .error .illegalOpcode
  | 0x4 => need1 t fun b1 t => .ok (.da_IR b1, t)
  | 0x5 => need1 t fun b1 t => .ok (.pop_IR b1, t)
  | 0x6 => need1 t fun b1 t => .ok (.com_IR b1, t)
  | 0x7 => need1 t fun b1 t => .ok (.push_IR b1, t)
  | 0x8 => need1 t fun b1 t => .ok (.decw_IR b1, t)
  | 0x9 => need1 t fun b1 t => .ok (.rl_IR b1, t)
  | 0xA => need1 t fun b1 t => .ok (.incw_IR b1, t)
  | 0xB => need1 t fun b1 t => .ok (.clr_IR b1, t)
  | 0xC => need1 t fun b1 t => .ok (.rrc_IR b1, t)
  | 0xD => need1 t fun b1 t => .ok (.sra_IR b1, t)
  | 0xE => need1 t fun b1 t => .ok (.rr_IR b1, t)
  | 0xF => need1 t fun b1 t => .ok (.swap_IR b1, t)
  | _ => .error .illegalOpcode

/-- First bytes x2H (30_encoding.md R86, R87). -/
def decodeCol2 (hi : Nat) (t : List Byte) : DecodeResult :=
  match hi with
  | 0x0 => need1 t fun b1 t => .ok (.add_r_r (hiNib b1) (loNib b1), t)
  | 0x1 => need1 t fun b1 t => .ok (.adc_r_r (hiNib b1) (loNib b1), t)
  | 0x2 => need1 t fun b1 t => .ok (.sub_r_r (hiNib b1) (loNib b1), t)
  | 0x3 => need1 t fun b1 t => .ok (.sbc_r_r (hiNib b1) (loNib b1), t)
  | 0x4 => need1 t fun b1 t => .ok (.or_r_r (hiNib b1) (loNib b1), t)
  | 0x5 => need1 t fun b1 t => .ok (.and_r_r (hiNib b1) (loNib b1), t)
  | 0x6 => need1 t fun b1 t => .ok (.tcm_r_r (hiNib b1) (loNib b1), t)
  | 0x7 => need1 t fun b1 t => .ok (.tm_r_r (hiNib b1) (loNib b1), t)
  | 0x8 => need2 t fun b1 b2 t => .ok (.pushud_IR_R b1 b2, t)
  | 0x9 => need2 t fun b1 b2 t => .ok (.popud_R_IR b2 b1, t)
  | 0xA => need1 t fun b1 t => .ok (.cp_r_r (hiNib b1) (loNib b1), t)
  | 0xB => need1 t fun b1 t => .ok (.xor_r_r (hiNib b1) (loNib b1), t)
  | 0xC => need2 t fun b1 b2 t => .ok (.cpije_r_Ir_RA (loNib b1) (hiNib b1) b2, t)
  | 0xD => need2 t fun b1 b2 t => .ok (.cpijne_r_Ir_RA (loNib b1) (hiNib b1) b2, t)
  | 0xE => need1 t fun b1 t => if b1.getLsbD 0 then .ok (.lded_r_Irr (hiNib b1) (midTri b1), t) else .ok (.ldcd_r_Irr (hiNib b1) (midTri b1), t)
  | 0xF => need1 t fun b1 t => if b1.getLsbD 0 then .ok (.ldepd_Irr_r (midTri b1) (hiNib b1), t) else .ok (.ldcpd_Irr_r (midTri b1) (hiNib b1), t)
  | _ => .error .illegalOpcode

/-- First bytes x3H (30_encoding.md R86, R87). -/
def decodeCol3 (hi : Nat) (t : List Byte) : DecodeResult :=
  match hi with
  | 0x0 => need1 t fun b1 t => .ok (.add_r_Ir (hiNib b1) (loNib b1), t)
  | 0x1 => need1 t fun b1 t => .ok (.adc_r_Ir (hiNib b1) (loNib b1), t)
  | 0x2 => need1 t fun b1 t => .ok (.sub_r_Ir (hiNib b1) (loNib b1), t)
  | 0x3 => need1 t fun b1 t => .ok (.sbc_r_Ir (hiNib b1) (loNib b1), t)
  | 0x4 => need1 t fun b1 t => .ok (.or_r_Ir (hiNib b1) (loNib b1), t)
  | 0x5 => need1 t fun b1 t => .ok (.and_r_Ir (hiNib b1) (loNib b1), t)
  | 0x6 => need1 t fun b1 t => .ok (.tcm_r_Ir (hiNib b1) (loNib b1), t)
  | 0x7 => need1 t fun b1 t => .ok (.tm_r_Ir (hiNib b1) (loNib b1), t)
  | 0x8 => need2 t fun b1 b2 t => .ok (.pushui_IR_R b1 b2, t)
  | 0x9 => need2 t fun b1 b2 t => .ok (.popui_R_IR b2 b1, t)
  | 0xA => need1 t fun b1 t => .ok (.cp_r_Ir (hiNib b1) (loNib b1), t)
  | 0xB => need1 t fun b1 t => .ok (.xor_r_Ir (hiNib b1) (loNib b1), t)
  | 0xC => need1 t fun b1 t => if b1.getLsbD 0 then .ok (.lde_r_Irr (hiNib b1) (midTri b1), t) else .ok (.ldc_r_Irr (hiNib b1) (midTri b1), t)
  | 0xD => need1 t fun b1 t => if b1.getLsbD 0 then .ok (.lde_Irr_r (midTri b1) (hiNib b1), t) else .ok (.ldc_Irr_r (midTri b1) (hiNib b1), t)
  | 0xE => need1 t fun b1 t => if b1.getLsbD 0 then .ok (.ldei_r_Irr (hiNib b1) (midTri b1), t) else .ok (.ldci_r_Irr (hiNib b1) (midTri b1), t)
  | 0xF => need1 t fun b1 t => if b1.getLsbD 0 then .ok (.ldepi_Irr_r (midTri b1) (hiNib b1), t) else .ok (.ldcpi_Irr_r (midTri b1) (hiNib b1), t)
  | _ => .error .illegalOpcode

/-- First bytes x4H (30_encoding.md R86, R87). -/
def decodeCol4 (hi : Nat) (t : List Byte) : DecodeResult :=
  match hi with
  | 0x0 => need2 t fun b1 b2 t => .ok (.add_R_R b2 b1, t)
  | 0x1 => need2 t fun b1 b2 t => .ok (.adc_R_R b2 b1, t)
  | 0x2 => need2 t fun b1 b2 t => .ok (.sub_R_R b2 b1, t)
  | 0x3 => need2 t fun b1 b2 t => .ok (.sbc_R_R b2 b1, t)
  | 0x4 => need2 t fun b1 b2 t => .ok (.or_R_R b2 b1, t)
  | 0x5 => need2 t fun b1 b2 t => .ok (.and_R_R b2 b1, t)
  | 0x6 => need2 t fun b1 b2 t => .ok (.tcm_R_R b2 b1, t)
  | 0x7 => need2 t fun b1 b2 t => .ok (.tm_R_R b2 b1, t)
  | 0x8 => need2 t fun b1 b2 t => ifEven b2 .oddPair (.ok (.mult_RR_R b2 b1, t))
  | 0x9 => need2 t fun b1 b2 t => ifEven b2 .oddPair (.ok (.div_RR_R b2 b1, t))
  | 0xA => need2 t fun b1 b2 t => .ok (.cp_R_R b2 b1, t)
  | 0xB => need2 t fun b1 b2 t => .ok (.xor_R_R b2 b1, t)
  | 0xC => need2 t fun b1 b2 t => ifEven b1 .oddPair (ifEven b2 .oddPair (.ok (.ldw_RR_RR b2 b1, t)))
  | 0xD => need1 t fun b1 t => ifEven b1 .oddTableAddress (.ok (.call_IA b1, t))
  | 0xE => need2 t fun b1 b2 t => .ok (.ld_R_R b2 b1, t)
  | 0xF => need1 t fun b1 t => ifEven b1 .oddPair (.ok (.call_IRR b1, t))
  | _ => .error .illegalOpcode

/-- First bytes x5H (30_encoding.md R86, R87). -/
def decodeCol5 (hi : Nat) (t : List Byte) : DecodeResult :=
  match hi with
  | 0x0 => need2 t fun b1 b2 t => .ok (.add_R_IR b2 b1, t)
  | 0x1 => need2 t fun b1 b2 t => .ok (.adc_R_IR b2 b1, t)
  | 0x2 => need2 t fun b1 b2 t => .ok (.sub_R_IR b2 b1, t)
  | 0x3 => need2 t fun b1 b2 t => .ok (.sbc_R_IR b2 b1, t)
  | 0x4 => need2 t fun b1 b2 t => .ok (.or_R_IR b2 b1, t)
  | 0x5 => need2 t fun b1 b2 t => .ok (.and_R_IR b2 b1, t)
  | 0x6 => need2 t fun b1 b2 t => .ok (.tcm_R_IR b2 b1, t)
  | 0x7 => need2 t fun b1 b2 t => .ok (.tm_R_IR b2 b1, t)
  | 0x8 => need2 t fun b1 b2 t => ifEven b2 .oddPair (.ok (.mult_RR_IR b2 b1, t))
  | 0x9 => need2 t fun b1 b2 t => ifEven b2 .oddPair (.ok (.div_RR_IR b2 b1, t))
  | 0xA => need2 t fun b1 b2 t => .ok (.cp_R_IR b2 b1, t)
  | 0xB => need2 t fun b1 b2 t => .ok (.xor_R_IR b2 b1, t)
  | 0xC => need2 t fun b1 b2 t => ifEven b2 .oddPair (.ok (.ldw_RR_IR b2 b1, t))
  | 0xE => need2 t fun b1 b2 t => .ok (.ld_R_IR b2 b1, t)
  | 0xF => need2 t fun b1 b2 t => .ok (.ld_IR_R b2 b1, t)
  | _ => .error .illegalOpcode

/-- First bytes x6H (30_encoding.md R86, R87). -/
def decodeCol6 (hi : Nat) (t : List Byte) : DecodeResult :=
  match hi with
  | 0x0 => need2 t fun b1 b2 t => .ok (.add_R_IM b1 b2, t)
  | 0x1 => need2 t fun b1 b2 t => .ok (.adc_R_IM b1 b2, t)
  | 0x2 => need2 t fun b1 b2 t => .ok (.sub_R_IM b1 b2, t)
  | 0x3 => need2 t fun b1 b2 t => .ok (.sbc_R_IM b1 b2, t)
  | 0x4 => need2 t fun b1 b2 t => .ok (.or_R_IM b1 b2, t)
  | 0x5 => need2 t fun b1 b2 t => .ok (.and_R_IM b1 b2, t)
  | 0x6 => need2 t fun b1 b2 t => .ok (.tcm_R_IM b1 b2, t)
  | 0x7 => need2 t fun b1 b2 t => .ok (.tm_R_IM b1 b2, t)
  | 0x8 => need2 t fun b1 b2 t => ifEven b2 .oddPair (.ok (.mult_RR_IM b2 b1, t))
  | 0x9 => need2 t fun b1 b2 t => ifEven b2 .oddPair (.ok (.div_RR_IM b2 b1, t))
  | 0xA => need2 t fun b1 b2 t => .ok (.cp_R_IM b1 b2, t)
  | 0xB => need2 t fun b1 b2 t => .ok (.xor_R_IM b1 b2, t)
  | 0xC => need3 t fun b1 b2 b3 t => ifEven b1 .oddPair (.ok (.ldw_RR_IML b1 (b2 ++ b3), t))
  | 0xD => need2 t fun b1 b2 t => .ok (.ld_IR_IM b1 b2, t)
  | 0xE => need2 t fun b1 b2 t => .ok (.ld_R_IM b1 b2, t)
  | 0xF => need2 t fun b1 b2 t => .ok (.call_DA (b1 ++ b2), t)
  | _ => .error .illegalOpcode

/-- First bytes x7H (30_encoding.md R86, R87). -/
def decodeCol7 (hi : Nat) (t : List Byte) : DecodeResult :=
  match hi with
  | 0x0 => need2 t fun b1 b2 t => if b1.getLsbD 0 then .ok (.bor_Rb_r0 b2 (midTri b1) (hiNib b1), t) else .ok (.bor_r0_Rb (hiNib b1) b2 (midTri b1), t)
  | 0x1 => need2 t fun b1 b2 t => if b1.getLsbD 0 then .error .illegalOpcode else .ok (.bcp_r0_Rb (hiNib b1) b2 (midTri b1), t)
  | 0x2 => need2 t fun b1 b2 t => if b1.getLsbD 0 then .ok (.bxor_Rb_r0 b2 (midTri b1) (hiNib b1), t) else .ok (.bxor_r0_Rb (hiNib b1) b2 (midTri b1), t)
  | 0x3 => need2 t fun b1 b2 t => if b1.getLsbD 0 then .ok (.btjrt_RA_rb b2 (hiNib b1) (midTri b1), t) else .ok (.btjrf_RA_rb b2 (hiNib b1) (midTri b1), t)
  | 0x4 => need2 t fun b1 b2 t => if b1.getLsbD 0 then .ok (.ldb_Rb_r0 b2 (midTri b1) (hiNib b1), t) else .ok (.ldb_r0_Rb (hiNib b1) b2 (midTri b1), t)
  | 0x5 => need1 t fun b1 t => if b1.getLsbD 0 then .error .illegalOpcode else .ok (.bitc_rb (hiNib b1) (midTri b1), t)
  | 0x6 => need2 t fun b1 b2 t => if b1.getLsbD 0 then .ok (.band_Rb_r0 b2 (midTri b1) (hiNib b1), t) else .ok (.band_r0_Rb (hiNib b1) b2 (midTri b1), t)
  | 0x7 => need1 t fun b1 t => if b1.getLsbD 0 then .ok (.bits_rb (hiNib b1) (midTri b1), t) else .ok (.bitr_rb (hiNib b1) (midTri b1), t)
  | 0x8 => need2 t fun b1 b2 t => .ok (.ld_r_X (hiNib b1) b2 (loNib b1), t)
  | 0x9 => need2 t fun b1 b2 t => .ok (.ld_X_r b2 (loNib b1) (hiNib b1), t)
  | 0xA => need3 t fun b1 b2 b3 t => if b1.getLsbD 0 then
      (if midTri b1 = 0#3 then .ok (.lde_r_DA (hiNib b1) (b3 ++ b2), t) else .ok (.lde_r_XL (hiNib b1) (midTri b1) (b3 ++ b2), t))
      else (if midTri b1 = 0#3 then .ok (.ldc_r_DA (hiNib b1) (b3 ++ b2), t) else .ok (.ldc_r_XL (hiNib b1) (midTri b1) (b3 ++ b2), t))
  | 0xB => need3 t fun b1 b2 b3 t => if b1.getLsbD 0 then
      (if midTri b1 = 0#3 then .ok (.lde_DA_r (b3 ++ b2) (hiNib b1), t) else .ok (.lde_XL_r (midTri b1) (b3 ++ b2) (hiNib b1), t))
      else (if midTri b1 = 0#3 then .ok (.ldc_DA_r (b3 ++ b2) (hiNib b1), t) else .ok (.ldc_XL_r (midTri b1) (b3 ++ b2) (hiNib b1), t))
  | 0xC => need1 t fun b1 t => .ok (.ld_r_Ir (hiNib b1) (loNib b1), t)
  | 0xD => need1 t fun b1 t => .ok (.ld_Ir_r (hiNib b1) (loNib b1), t)
  | 0xE => need2 t fun b1 b2 t => if b1.getLsbD 0 then .ok (.lde_r_XS (hiNib b1) (midTri b1) b2, t) else .ok (.ldc_r_XS (hiNib b1) (midTri b1) b2, t)
  | 0xF => need2 t fun b1 b2 t => if b1.getLsbD 0 then .ok (.lde_XS_r (midTri b1) b2 (hiNib b1), t) else .ok (.ldc_XS_r (midTri b1) b2 (hiNib b1), t)
  | _ => .error .illegalOpcode

/-- First bytes xFH (30_encoding.md R86, R87). -/
def decodeColF (hi : Nat) (t : List Byte) : DecodeResult :=
  match hi with
  | 0x0 => .ok (.next, t)
  | 0x1 => .ok (.enter, t)
  | 0x2 => .ok (.exit, t)
  | 0x3 => .ok (.wfi, t)
  | 0x4 => .ok (.sb0, t)
  | 0x5 => .ok (.sb1, t)
  | 0x6 => .ok (.idle, t)
  | 0x7 => .ok (.stop, t)
  | 0x8 => .ok (.di, t)
  | 0x9 => .ok (.ei, t)
  | 0xA => .ok (.ret, t)
  | 0xB => .ok (.iret, t)
  | 0xC => .ok (.rcf, t)
  | 0xD => .ok (.scf, t)
  | 0xE => .ok (.ccf, t)
  | 0xF => .ok (.nop, t)
  | _ => .error .illegalOpcode

/-- The instruction at the head of a list of bytes, and the bytes after it. The first byte fixes the length (30_encoding.md R81); in
the columns 8 to E its high nibble is an operand (R86). -/
def decode : List Byte → DecodeResult
  | [] => .error .truncated
  | b0 :: t =>
    let hi := hiNib b0
    match (loNib b0).toNat with
    | 0x0 => decodeCol0 hi.toNat t
    | 0x1 => decodeCol1 hi.toNat t
    | 0x2 => decodeCol2 hi.toNat t
    | 0x3 => decodeCol3 hi.toNat t
    | 0x4 => decodeCol4 hi.toNat t
    | 0x5 => decodeCol5 hi.toNat t
    | 0x6 => decodeCol6 hi.toNat t
    | 0x7 => decodeCol7 hi.toNat t
    | 0x8 => need1 t fun b1 t => .ok (.ld_r_R hi b1, t)
    | 0x9 => need1 t fun b1 t => .ok (.ld_R_r b1 hi, t)
    | 0xA => need1 t fun b1 t => .ok (.djnz_r_RA hi b1, t)
    | 0xB => need1 t fun b1 t => .ok (.jr_cc_RA (Cond.ofCode hi) b1, t)
    | 0xC => need1 t fun b1 t => .ok (.ld_r_IM hi b1, t)
    | 0xD => need2 t fun b1 b2 t => .ok (.jp_cc_DA (Cond.ofCode hi) (b1 ++ b2), t)
    | 0xE => .ok (.inc_r hi, t)
    | _ => decodeColF hi.toNat t

/-- The length of an instruction in bytes, from its first byte alone (30_encoding.md R81). D5H is no instruction: its first byte is
enough to reject it. -/
def lengthOf (b0 : Byte) : Nat :=
  let hi := (hiNib b0).toNat
  match (loNib b0).toNat with
  | 0x0 => 2
  | 0x1 => 2
  | 0x2 => if hi = 0x8 ∨ hi = 0x9 ∨ hi = 0xC ∨ hi = 0xD then 3 else 2
  | 0x3 => if hi = 0x8 ∨ hi = 0x9 then 3 else 2
  | 0x4 => if hi = 0xD ∨ hi = 0xF then 2 else 3
  | 0x5 => if hi = 0xD then 1 else 3
  | 0x6 => if hi = 0xC then 4 else 3
  | 0x7 => if hi = 0x5 ∨ hi = 0x7 ∨ hi = 0xC ∨ hi = 0xD then 2 else if hi = 0xA ∨ hi = 0xB then 4 else 3
  | 0x8 => 2
  | 0x9 => 2
  | 0xA => 2
  | 0xB => 2
  | 0xC => 2
  | 0xD => 3
  | _ => 1

/-- The bytes of an instruction, first byte first (30_encoding.md R83, R86, R87; the encoding column of spec/opcode_table.json). -/
def encode : Instr → List Byte
  | .add_r_r dst src => [0x02#8, dst ++ src]
  | .add_r_Ir dst src => [0x03#8, dst ++ src]
  | .add_R_R dst src => [0x04#8, src, dst]
  | .add_R_IR dst src => [0x05#8, src, dst]
  | .add_R_IM dst im => [0x06#8, dst, im]
  | .adc_r_r dst src => [0x12#8, dst ++ src]
  | .adc_r_Ir dst src => [0x13#8, dst ++ src]
  | .adc_R_R dst src => [0x14#8, src, dst]
  | .adc_R_IR dst src => [0x15#8, src, dst]
  | .adc_R_IM dst im => [0x16#8, dst, im]
  | .sub_r_r dst src => [0x22#8, dst ++ src]
  | .sub_r_Ir dst src => [0x23#8, dst ++ src]
  | .sub_R_R dst src => [0x24#8, src, dst]
  | .sub_R_IR dst src => [0x25#8, src, dst]
  | .sub_R_IM dst im => [0x26#8, dst, im]
  | .sbc_r_r dst src => [0x32#8, dst ++ src]
  | .sbc_r_Ir dst src => [0x33#8, dst ++ src]
  | .sbc_R_R dst src => [0x34#8, src, dst]
  | .sbc_R_IR dst src => [0x35#8, src, dst]
  | .sbc_R_IM dst im => [0x36#8, dst, im]
  | .or_r_r dst src => [0x42#8, dst ++ src]
  | .or_r_Ir dst src => [0x43#8, dst ++ src]
  | .or_R_R dst src => [0x44#8, src, dst]
  | .or_R_IR dst src => [0x45#8, src, dst]
  | .or_R_IM dst im => [0x46#8, dst, im]
  | .and_r_r dst src => [0x52#8, dst ++ src]
  | .and_r_Ir dst src => [0x53#8, dst ++ src]
  | .and_R_R dst src => [0x54#8, src, dst]
  | .and_R_IR dst src => [0x55#8, src, dst]
  | .and_R_IM dst im => [0x56#8, dst, im]
  | .tcm_r_r dst src => [0x62#8, dst ++ src]
  | .tcm_r_Ir dst src => [0x63#8, dst ++ src]
  | .tcm_R_R dst src => [0x64#8, src, dst]
  | .tcm_R_IR dst src => [0x65#8, src, dst]
  | .tcm_R_IM dst im => [0x66#8, dst, im]
  | .tm_r_r dst src => [0x72#8, dst ++ src]
  | .tm_r_Ir dst src => [0x73#8, dst ++ src]
  | .tm_R_R dst src => [0x74#8, src, dst]
  | .tm_R_IR dst src => [0x75#8, src, dst]
  | .tm_R_IM dst im => [0x76#8, dst, im]
  | .cp_r_r dst src => [0xa2#8, dst ++ src]
  | .cp_r_Ir dst src => [0xa3#8, dst ++ src]
  | .cp_R_R dst src => [0xa4#8, src, dst]
  | .cp_R_IR dst src => [0xa5#8, src, dst]
  | .cp_R_IM dst im => [0xa6#8, dst, im]
  | .xor_r_r dst src => [0xb2#8, dst ++ src]
  | .xor_r_Ir dst src => [0xb3#8, dst ++ src]
  | .xor_R_R dst src => [0xb4#8, src, dst]
  | .xor_R_IR dst src => [0xb5#8, src, dst]
  | .xor_R_IM dst im => [0xb6#8, dst, im]
  | .dec_R dst => [0x00#8, dst]
  | .dec_IR dst => [0x01#8, dst]
  | .rlc_R dst => [0x10#8, dst]
  | .rlc_IR dst => [0x11#8, dst]
  | .inc_R dst => [0x20#8, dst]
  | .inc_IR dst => [0x21#8, dst]
  | .da_R dst => [0x40#8, dst]
  | .da_IR dst => [0x41#8, dst]
  | .pop_R dst => [0x50#8, dst]
  | .pop_IR dst => [0x51#8, dst]
  | .com_R dst => [0x60#8, dst]
  | .com_IR dst => [0x61#8, dst]
  | .push_R src => [0x70#8, src]
  | .push_IR src => [0x71#8, src]
  | .rl_R dst => [0x90#8, dst]
  | .rl_IR dst => [0x91#8, dst]
  | .clr_R dst => [0xb0#8, dst]
  | .clr_IR dst => [0xb1#8, dst]
  | .rrc_R dst => [0xc0#8, dst]
  | .rrc_IR dst => [0xc1#8, dst]
  | .sra_R dst => [0xd0#8, dst]
  | .sra_IR dst => [0xd1#8, dst]
  | .rr_R dst => [0xe0#8, dst]
  | .rr_IR dst => [0xe1#8, dst]
  | .swap_R dst => [0xf0#8, dst]
  | .swap_IR dst => [0xf1#8, dst]
  | .decw_RR dst => [0x80#8, dst]
  | .decw_IR dst => [0x81#8, dst]
  | .incw_RR dst => [0xa0#8, dst]
  | .incw_IR dst => [0xa1#8, dst]
  | .inc_r dst => [dst ++ 14#4]
  | .jp_IRR dst => [0x30#8, dst]
  | .srp_IM im x => [0x31#8, im ++ x ++ 0#2]
  | .srp0_IM im x => [0x31#8, im ++ x ++ 2#2]
  | .srp1_IM im x => [0x31#8, im ++ x ++ 1#2]
  | .pushud_IR_R dst src => [0x82#8, dst, src]
  | .pushui_IR_R dst src => [0x83#8, dst, src]
  | .popud_R_IR dst src => [0x92#8, src, dst]
  | .popui_R_IR dst src => [0x93#8, src, dst]
  | .cpije_r_Ir_RA dst src ra => [0xc2#8, src ++ dst, ra]
  | .cpijne_r_Ir_RA dst src ra => [0xd2#8, src ++ dst, ra]
  | .ldc_r_Irr dst p => [0xc3#8, dst ++ p ++ 0#1]
  | .lde_r_Irr dst p => [0xc3#8, dst ++ p ++ 1#1]
  | .ldc_Irr_r p src => [0xd3#8, src ++ p ++ 0#1]
  | .lde_Irr_r p src => [0xd3#8, src ++ p ++ 1#1]
  | .ldcd_r_Irr dst p => [0xe2#8, dst ++ p ++ 0#1]
  | .lded_r_Irr dst p => [0xe2#8, dst ++ p ++ 1#1]
  | .ldci_r_Irr dst p => [0xe3#8, dst ++ p ++ 0#1]
  | .ldei_r_Irr dst p => [0xe3#8, dst ++ p ++ 1#1]
  | .ldcpd_Irr_r p src => [0xf2#8, src ++ p ++ 0#1]
  | .ldepd_Irr_r p src => [0xf2#8, src ++ p ++ 1#1]
  | .ldcpi_Irr_r p src => [0xf3#8, src ++ p ++ 0#1]
  | .ldepi_Irr_r p src => [0xf3#8, src ++ p ++ 1#1]
  | .ldc_r_XS dst p xs => [0xe7#8, dst ++ p ++ 0#1, xs]
  | .lde_r_XS dst p xs => [0xe7#8, dst ++ p ++ 1#1, xs]
  | .ldc_XS_r p xs src => [0xf7#8, src ++ p ++ 0#1, xs]
  | .lde_XS_r p xs src => [0xf7#8, src ++ p ++ 1#1, xs]
  | .ldc_r_XL dst p xl => [0xa7#8, dst ++ p ++ 0#1, xl.extractLsb' 0 8, xl.extractLsb' 8 8]
  | .ldc_XL_r p xl src => [0xb7#8, src ++ p ++ 0#1, xl.extractLsb' 0 8, xl.extractLsb' 8 8]
  | .ldc_r_DA dst da => [0xa7#8, dst ++ 0#4, da.extractLsb' 0 8, da.extractLsb' 8 8]
  | .ldc_DA_r da src => [0xb7#8, src ++ 0#4, da.extractLsb' 0 8, da.extractLsb' 8 8]
  | .lde_r_XL dst p xl => [0xa7#8, dst ++ p ++ 1#1, xl.extractLsb' 0 8, xl.extractLsb' 8 8]
  | .lde_XL_r p xl src => [0xb7#8, src ++ p ++ 1#1, xl.extractLsb' 0 8, xl.extractLsb' 8 8]
  | .lde_r_DA dst da => [0xa7#8, dst ++ 1#4, da.extractLsb' 0 8, da.extractLsb' 8 8]
  | .lde_DA_r da src => [0xb7#8, src ++ 1#4, da.extractLsb' 0 8, da.extractLsb' 8 8]
  | .mult_RR_R dst src => [0x84#8, src, dst]
  | .mult_RR_IR dst src => [0x85#8, src, dst]
  | .mult_RR_IM dst im => [0x86#8, im, dst]
  | .div_RR_R dst src => [0x94#8, src, dst]
  | .div_RR_IR dst src => [0x95#8, src, dst]
  | .div_RR_IM dst im => [0x96#8, im, dst]
  | .ldw_RR_RR dst src => [0xc4#8, src, dst]
  | .ldw_RR_IR dst src => [0xc5#8, src, dst]
  | .ldw_RR_IML dst iml => [0xc6#8, dst, iml.extractLsb' 8 8, iml.extractLsb' 0 8]
  | .call_IA ia => [0xd4#8, ia]
  | .call_IRR dst => [0xf4#8, dst]
  | .call_DA da => [0xf6#8, da.extractLsb' 8 8, da.extractLsb' 0 8]
  | .ld_IR_IM dst im => [0xd6#8, dst, im]
  | .ld_R_R dst src => [0xe4#8, src, dst]
  | .ld_R_IR dst src => [0xe5#8, src, dst]
  | .ld_R_IM dst im => [0xe6#8, dst, im]
  | .ld_IR_R dst src => [0xf5#8, src, dst]
  | .ld_r_X dst x idx => [0x87#8, dst ++ idx, x]
  | .ld_X_r x idx src => [0x97#8, src ++ idx, x]
  | .ld_r_Ir dst src => [0xc7#8, dst ++ src]
  | .ld_Ir_r dst src => [0xd7#8, dst ++ src]
  | .ld_r_R dst src => [dst ++ 8#4, src]
  | .ld_R_r dst src => [src ++ 9#4, dst]
  | .djnz_r_RA n ra => [n ++ 10#4, ra]
  | .jr_cc_RA cc ra => [cc.code ++ 11#4, ra]
  | .ld_r_IM dst im => [dst ++ 12#4, im]
  | .jp_cc_DA cc da => [cc.code ++ 13#4, da.extractLsb' 8 8, da.extractLsb' 0 8]
  | .bor_r0_Rb dst src b => [0x07#8, dst ++ b ++ 0#1, src]
  | .bor_Rb_r0 dst b src => [0x07#8, src ++ b ++ 1#1, dst]
  | .bcp_r0_Rb dst src b => [0x17#8, dst ++ b ++ 0#1, src]
  | .bxor_r0_Rb dst src b => [0x27#8, dst ++ b ++ 0#1, src]
  | .bxor_Rb_r0 dst b src => [0x27#8, src ++ b ++ 1#1, dst]
  | .btjrf_RA_rb ra src b => [0x37#8, src ++ b ++ 0#1, ra]
  | .btjrt_RA_rb ra src b => [0x37#8, src ++ b ++ 1#1, ra]
  | .ldb_r0_Rb dst src b => [0x47#8, dst ++ b ++ 0#1, src]
  | .ldb_Rb_r0 dst b src => [0x47#8, src ++ b ++ 1#1, dst]
  | .bitc_rb dst b => [0x57#8, dst ++ b ++ 0#1]
  | .band_r0_Rb dst src b => [0x67#8, dst ++ b ++ 0#1, src]
  | .band_Rb_r0 dst b src => [0x67#8, src ++ b ++ 1#1, dst]
  | .bitr_rb dst b => [0x77#8, dst ++ b ++ 0#1]
  | .bits_rb dst b => [0x77#8, dst ++ b ++ 1#1]
  | .next => [0x0f#8]
  | .enter => [0x1f#8]
  | .exit => [0x2f#8]
  | .wfi => [0x3f#8]
  | .sb0 => [0x4f#8]
  | .sb1 => [0x5f#8]
  | .idle => [0x6f#8]
  | .stop => [0x7f#8]
  | .di => [0x8f#8]
  | .ei => [0x9f#8]
  | .ret => [0xaf#8]
  | .iret => [0xbf#8]
  | .rcf => [0xcf#8]
  | .scf => [0xdf#8]
  | .ccf => [0xef#8]
  | .nop => [0xff#8]

/-- The four bytes, as the hardware stores them, of a word numbered as spec/opcode_table.json numbers it (30_encoding.md R93): its first
16 bits hold the first byte in bits 15..8 and the second in bits 7..0, and the bytes after them count on, the third in bits 23..16
and the fourth in bits 31..24. Bits from `nbits` on are 0. A one-byte row may come as its byte alone (log 35). -/
def tableBytes (nbits w : Nat) : List Byte :=
  let v := w % 2 ^ nbits
  if nbits ≤ 8 then [BitVec.ofNat 8 v, 0#8, 0#8, 0#8]
  else [BitVec.ofNat 8 (v / 256), BitVec.ofNat 8 v, BitVec.ofNat 8 (v / 65536), BitVec.ofNat 8 (v / 16777216)]

/-- The instruction the decoder reads from a word of spec/opcode_table.json. -/
def decodeTableWord (nbits w : Nat) : Option Instr :=
  match decode (tableBytes nbits w) with
  | .ok (i, _) => some i
  | .error _ => none

end Sys2Proof
end

