-- ==== Sys2Proof/Machine/Fetch.lean ====
section
/-! DEFINITION. Fetching an instruction (10_state.md R21), and the bookkeeping of a step. -/

namespace Sys2Proof.Machine

/-- n bytes of program memory from an address on. -/
def State.fetchBytes (s : State) : Nat → Word → Res (List Byte)
  | 0, _ => .ok []
  | n + 1, a => do
    let b ← s.progRead a
    let rest ← s.fetchBytes n (a + 1#16)
    return b :: rest

/-- Why the model stops on bytes that are no instruction (30_encoding.md R88). -/
def decodeStop : DecodeError → Stop
  | .illegalOpcode => .fault .illegalOpcode
  | .oddPair => .refusal .oddPair
  | .oddTableAddress => .refusal .oddTableAddress
  | .truncated => .fault .illegalOpcode

/-- The instruction at `pc` and its length: the first byte, then as many as it asks for (30_encoding.md R81). -/
def State.fetch (s : State) : Res (Instr × Nat) := do
  let b0 ← s.progRead s.pc
  let rest ← s.fetchBytes (lengthOf b0 - 1) (s.pc + 1#16)
  match decode (b0 :: rest) with
  | .ok (i, _) => .ok (i, lengthOf b0)
  | .error e => .error (decodeStop e)

/-- `pc` advanced past the instruction before its effect is computed (10_state.md R21), modulo 2^16 (D24). -/
def State.beginInstr (s : State) (len : Nat) : State := (s.setPc (s.pc + BitVec.ofNat 16 len)).setLatency false

/-- A step counted. -/
def State.nextTick (s : State) : State := s.setTick (s.tick + 1)

/-- A step counted where it has a next state. -/
def ticked : Host.Outcome State Fault Refusal → Host.Outcome State Fault Refusal
  | .next s => .next s.nextTick
  | .fault f => .fault f
  | .refused r => .refused r

/-- Bytes stored in program memory from an address on. -/
def storeProgram : Memory → Nat → List Byte → Memory
  | m, _, [] => m
  | m, a, b :: rest => storeProgram (m.write .program a b) (a + 1) rest

end Sys2Proof.Machine
end

