-- ==== Sys2Proof/Machine/Interrupts.lean ====
section
/-! DEFINITION. What happens at an instruction boundary: the environment's inputs (60_exceptions.md R294, R295, R303), reset during a run
(70_reset_and_hazards.md R320, R326), which request is served (60 R288 to R291), and how the wait states end (46_cpu_control.md R275). -/

namespace Sys2Proof.Machine

/-! ## Reset during a run -/

/-- The state after a reset that is not the power-on (10_state.md R40; 70 R326): the registers with a reset value get it, the control
registers without one get a free value, the peripheral registers get the bytes of `State.reset`, the memories keep theirs (log 31). -/
def State.afterReset (s : State) : State :=
  { s with
    pc := Config.resetPc
    flags := s.drawByte .resetFlags &&& 0xFC#8
    flagsShadow := s.drawByte .resetShadow
    rp0 := 0xC0#8
    rp1 := 0xC8#8
    sph := s.drawByte .resetSph
    spl := s.drawByte .resetSpl
    iph := s.drawByte .resetIph
    ipl := s.drawByte .resetIpl
    imr := s.drawByte .resetImr
    sym := s.drawByte .resetSym &&& 0x1C#8
    pp := 0x00#8
    ipr := s.drawByte .resetIpr
    iprEpoch := s.tick
    t0cnt := 0x00#8
    t0data := 0xFF#8
    t0con := 0x00#8
    btcon := 0x00#8
    clkcon := 0x00#8
    btcnt := s.drawByte .resetBtcnt
    regs := s.regs.filter (fun c => decide (c.1 < bankBase))
    pending := 0#22
    power := .run
    waiting := false
    latency := false }

/-! ## The environment's inputs -/

/-- Whether source n is a pin of port 0 or port 2 (46_cpu_control.md R272). -/
def State.isExternal (s : State) (n : Nat) : Bool :=
  match s.launch.vectorMap[n]? with
  | some src => src.external
  | none => false

/-- A source's event sets its latch (60_exceptions.md R291). In Stop mode only the pins still have events, their clock being no clock of
the chip (46_cpu_control.md R272); in Back-up mode nothing runs (60 R314). -/
def State.raise (s : State) (n : Nat) : State :=
  match s.power with
  | .backup => s
  | .stop => if s.isExternal n then s.setPending (withLatch s.pending n true) else s
  | .run => s.setPending (withLatch s.pending n true)
  | .idle => s.setPending (withLatch s.pending n true)

/-- The watchdog is enabled unless BTCON[7:4] = 1010B (10_state.md R33). -/
def State.watchdogOn (s : State) : Bool := s.btcon.extractLsb' 4 4 != 0xA#4

/-- The basic timer counts n times; an overflow with the watchdog enabled resets the chip (10_state.md R33; 60 R306). Its clock stands
still in Stop and Back-up mode (46_cpu_control.md R272; 60 R314). -/
def State.basicTimer (s : State) (n : Nat) : State :=
  match s.power with
  | .backup => s
  | .stop => s
  | .run | .idle =>
    if s.watchdogOn && decide (0x100 ≤ s.btcnt.toNat + n) then s.afterReset else s.setBtcnt (s.btcnt + BitVec.ofNat 8 n)

/-- The supply below V_LVD: Back-up mode, but on the G parts not in Stop mode (60_exceptions.md R314). -/
def State.supplyLow (s : State) : State :=
  if s.power = .stop ∧ s.launch.part.lvdOffInStop = true then s else s.setPower .backup

/-- One input of the environment. -/
def State.happen (s : State) : EnvEvent → State
  | .raise n => s.raise n
  | .basicTimer n => s.basicTimer n
  | .resetPinLow => s.setPower .backup
  | .supplyLow => s.supplyLow
  | .resetRelease => if s.power = .backup then s.afterReset else s

/-- The inputs of this boundary (60_exceptions.md R295). -/
def State.environment (s : State) : State :=
  match s.env with
  | [] => s
  | now :: rest => now.foldl State.happen (s.setEnv rest)

/-! ## Which request is served -/

/-- The order of the three groups of levels (10_state.md R31; 60 R290): IPR bits 7, 4, 1; free for 000B and 111B (U9). -/
def State.groupOrder (s : State) : Config.GroupOrder :=
  match bitAt s.ipr 7#3, bitAt s.ipr 4#3, bitAt s.ipr 1#3 with
  | false, false, true => .bca
  | false, true, false => .abc
  | false, true, true => .bac
  | true, false, false => .cab
  | true, false, true => .cba
  | true, true, false => .acb
  | false, false, false => Config.undefinedGroupOrder s.iprEpoch
  | true, true, true => Config.undefinedGroupOrder s.iprEpoch

/-- The three groups of levels (10_state.md R31). -/
inductive LevelGroup where
  | a | b | c
  deriving DecidableEq, Repr

/-- The group of a level: A = IRQ0, IRQ1; B = IRQ2, IRQ3, IRQ4; C = IRQ5, IRQ6, IRQ7 (10_state.md R31). -/
def levelGroup (lv : Tri) : LevelGroup :=
  if lv.toNat ≤ 1 then .a else if lv.toNat ≤ 4 then .b else .c

/-- Whether the order puts the first group above the second. -/
def groupAbove : Config.GroupOrder → LevelGroup → LevelGroup → Bool
  | .bca, .b, .c => true
  | .bca, .b, .a => true
  | .bca, .c, .a => true
  | .abc, .a, .b => true
  | .abc, .a, .c => true
  | .abc, .b, .c => true
  | .bac, .b, .a => true
  | .bac, .b, .c => true
  | .bac, .a, .c => true
  | .cab, .c, .a => true
  | .cab, .c, .b => true
  | .cab, .a, .b => true
  | .cba, .c, .b => true
  | .cba, .c, .a => true
  | .cba, .b, .a => true
  | .acb, .a, .c => true
  | .acb, .a, .b => true
  | .acb, .c, .b => true
  | _, _, _ => false

/-- The levels of each group in their order inside the group, highest first, the groups one after another (10_state.md R31: IPR bit 0
for A, bits 2 and 3 for B, bits 5 and 6 for C). -/
def State.levelsInGroups (s : State) : List Tri :=
  let subB : List Tri := if bitAt s.ipr 3#3 then [4#3, 3#3] else [3#3, 4#3]
  let subC : List Tri := if bitAt s.ipr 6#3 then [7#3, 6#3] else [6#3, 7#3]
  (if bitAt s.ipr 0#3 then [1#3, 0#3] else [0#3, 1#3])
    ++ (if bitAt s.ipr 2#3 then subB ++ [2#3] else 2#3 :: subB)
    ++ (if bitAt s.ipr 5#3 then subC ++ [5#3] else 5#3 :: subC)

/-- Whether level x is served before level y (60_exceptions.md R290): inside a group by its own bits, between groups by the group
order. -/
def State.outranks (s : State) (x y : Tri) : Bool :=
  if levelGroup x = levelGroup y then decide (s.levelsInGroups.idxOf x < s.levelsInGroups.idxOf y)
  else groupAbove s.groupOrder (levelGroup x) (levelGroup y)

/-- A request of an unmasked level (60_exceptions.md R289 (1), (2)). -/
def State.unmasked (s : State) (n : Nat) (src : Source) : Bool := s.requested n src && bitAt s.imr src.level

/-- A request that can be served (60_exceptions.md R289): unmasked, SYM.0 set; and no second fast interrupt while one is in service (R298,
log 14). -/
def State.eligible (s : State) (n : Nat) (src : Source) : Bool :=
  s.unmasked n src && s.ie && !(s.isFast src && s.flag .fis)

/-- Whether some source from number n on passes a test. -/
def anySource (test : Nat → Source → Bool) : Nat → List Source → Bool
  | _, [] => false
  | n, src :: rest => test n src || anySource test (n + 1) rest

/-- The request served first among those of the sources from number n on and the best so far: a request of a level that outranks the
best so far replaces it, so that inside a level the first source of the map wins (60_exceptions.md R289). -/
def State.servedFrom (s : State) : Nat → List Source → Option (Nat × Source) → Option (Nat × Source)
  | _, [], best => best
  | n, src :: rest, best =>
    s.servedFrom (n + 1) rest
      (if s.eligible n src then
        match best with
        | none => some (n, src)
        | some b => if s.outranks src.level b.2.level then some (n, src) else some b
      else best)

/-- The request served first (60_exceptions.md R289, R290). -/
def State.served (s : State) : Option (Nat × Source) := s.servedFrom 0 s.launch.vectorMap none

/-- Whether a request can end the present power-down mode: an unmasked one, in Stop mode of an external source (46_cpu_control.md R270,
R272). -/
def State.wakes (s : State) : Bool :=
  anySource (fun n src => s.unmasked n src && (src.external || s.power != .stop)) 0 s.launch.vectorMap

/-! ## What the boundary leads to -/

/-- What the core does at a boundary. -/
inductive Boundary where
  /-- No instruction executes. -/
  | wait (s : State)
  /-- A request is taken. -/
  | enter (n : Nat) (src : Source) (s : State)
  /-- The next instruction executes. -/
  | execute (s : State)
  deriving DecidableEq, Repr

/-- The boundary of a machine in Idle or Stop mode: a waking request is taken where SYM.0 is set; where it is clear, whether it releases
the mode is free, and a release goes on with the next instruction (46_cpu_control.md R270, R272; log 15). -/
def State.powerDownBoundary (s : State) : Boundary :=
  if !s.wakes then .wait s
  else if s.ie then
    match s.served with
    | some (n, src) => .enter n src ((s.setPower .run).setWaiting false)
    | none => .wait s
  else if s.drawBit .release then .execute (s.setPower .run)
  else .wait s

/-- The boundary of a running machine: a served request is taken, and ends a WFI; right after EI, IRET or a write to SYM, IMR, IPR
whether it is taken yet is free (60_exceptions.md R295; 43_program_control.md R214). MODEL'S CHOICE (DESIGN CHOICE, log 16): the new SYM,
IMR and IPR decide at once which request is served, so that a request which only their old values would have served, or would have
served first, is not taken. -/
def State.runBoundary (s : State) : Boundary :=
  match s.served with
  | some (n, src) =>
    if s.latency && !s.waiting && !s.drawBit .latency then .execute s else .enter n src (s.setWaiting false)
  | none => if s.waiting then .wait s else .execute s

/-- What the core does at a boundary, the inputs having arrived. -/
def State.boundary (s : State) : Boundary :=
  match s.power with
  | .backup => .wait s
  | .run => s.runBoundary
  | .idle => s.powerDownBoundary
  | .stop => s.powerDownBoundary

end Sys2Proof.Machine
end

