-- ==== Sys2Proof/Machine/Step.lean ====
section
/-! DEFINITION. One step: the boundary's inputs, then a wait, an interrupt entry or one instruction (60_exceptions.md R295). -/

namespace Sys2Proof.Machine

/-- One step of the machine. -/
def step (s : State) : Host.Outcome State Fault Refusal :=
  match s.environment.boundary with
  | .wait s1 => .next s1.nextTick
  | .enter n src s1 => ticked (finish ((s1.setLatency false).takeInterrupt n src))
  | .execute s1 =>
    match s1.fetch with
    | .error e => finish (.error e)
    | .ok (i, len) => ticked (exec i (s1.beginInstr len))

/-- The instruction of a word of spec/opcode_table.json placed where the next step fetches: at `pc` in program memory, the machine running,
with no input and no request in the way (log 1, log 35). -/
def State.withFetchWord (s : State) (nbits w : Nat) : State :=
  { s with
    rom := storeProgram s.rom s.pc.toNat (tableBytes nbits w)
    power := .run
    waiting := false
    env := []
    pending := 0#22 }

end Sys2Proof.Machine
end

