-- ==== Sys2Proof/Safety.lean ====
section
/-! DEFINITION. What counts as a safe run, and the terms the statements use: the invariant of the machine, the places an instruction may
access, what a write leaves in a place, and the frame of an instruction. Everything here is said over `State.stored`, the byte a place
holds, and `State.look`, the byte an instruction reads there. -/

namespace Sys2Proof.Machine

/-! ## The invariant -/

/-- What every state of a run has: the three memories in canonical form (log 1 to log 3); bits 2..0 of the register pointers 0
(10_state.md R27); the unused bits of SYM, BTCON and CLKCON not stored (R28, R33, R34; log 21); PP naming pages that
exist (R32); launch parameters with the counts of the chip (00_scope.md R4; 60_exceptions.md R280, R285). -/
def State.inv (s : State) : Bool :=
  s.regs.wf .registers && s.rom.wf .program && s.data.wf .external
    && s.rp0 &&& 0x07#8 == 0#8 && s.rp1 &&& 0x07#8 == 0#8
    && s.sym &&& 0xE0#8 == 0#8 && s.btcon &&& 0x03#8 == 0#8 && s.clkcon &&& 0x67#8 == 0#8
    && s.pagesExist s.pp && s.launch.conforms

/-! ## Accesses -/

/-- Whether a place can be read: its page exists (10_state.md R32), its peripheral register is implemented (R35). -/
def State.readable (s : State) : Loc → Bool
  | .ram p _ => decide (p.toNat < s.launch.nPages)
  | .bank b n => !s.launch.absent.contains (.bank b n)
  | .sys .t0cnt => !s.launch.absent.contains (.sys .t0cnt)
  | .sys .t0data => !s.launch.absent.contains (.sys .t0data)
  | .sys .t0con => !s.launch.absent.contains (.sys .t0con)
  | .sys _ => true
  | .common _ => true
  | .ipr => true

/-- A byte for a place. -/
abbrev Write := Loc × Byte

/-- Whether a byte can be written to a place, `ie` being SYM.0 at that moment: IMR only while it is 0 (70_reset_and_hazards.md R333), PP
only with pages that exist (10_state.md R32), every other place where it can be read. -/
def State.writable (s : State) (ie : Bool) : Write → Bool
  | (.sys .imr, _) => !ie
  | (.sys .pp, v) => decide ((v &&& 0x0F#8).toNat < s.launch.nPages) && decide ((v >>> 4).toNat < s.launch.nPages)
  | (l, _) => s.readable l

/-- SYM.0 after a write. -/
def enableAfter (ie : Bool) (w : Write) : Bool := if w.1 = .sys .sym then bitAt w.2 0#3 else ie

/-- Whether some writes can be made, one after another. -/
def State.writableAll (s : State) (ie : Bool) : List Write → Bool
  | [] => true
  | w :: ws => s.writable ie w && s.writableAll (enableAfter ie w) ws

/-- What a place holds after v is written to it: T0CNT and IRQ ignore a write (10_state.md R26, R30); RP0, RP1, SYM, BTCON and CLKCON keep
the bits they have (R27, R28, R33, R34; log 21); FLAGS takes the byte, FIS being free where the write would change it (R22; U12, log 13);
every other place takes the byte. -/
def landed (fis : Bool) (old : Byte) (l : Loc) (v : Byte) : Byte :=
  match l with
  | .sys .t0cnt => old
  | .sys .irq => old
  | .sys .rp0 => v &&& 0xF8#8
  | .sys .rp1 => v &&& 0xF8#8
  | .sys .sym => v &&& 0x1F#8
  | .sys .btcon => v &&& 0xFC#8
  | .sys .clkcon => v &&& 0x98#8
  | .sys .flags => if bitAt v 1#3 = bitAt old 1#3 then v else withBit v 1#3 fis
  | _ => v

/-- What every place holds after some writes, one after another. -/
def State.heldAfter (s : State) : List Write → Loc → Byte :=
  List.foldl (fun held w l => if l = w.1 then landed (s.drawBit .fastStatus) (held l) l w.2 else held l) s.stored

/-- Whether a write is recorded as an event: the volatile places (20_memory.md R62). -/
def recorded (w : Write) : Option PeriphWrite := if w.1.isVolatile then some ⟨w.1, w.2⟩ else none

/-- The latch of source n after a write, `latch` before (60_exceptions.md R291): what the peripheral makes of it, for a software-cleared
source whose pending bit lies in the volatile register written (log 20); kept for every other source and every other write. A write to
IRQ has no effect (10_state.md R30). -/
def latchAfter (launch : Launch) (n : Nat) (latch : Bool) (w : Write) : Bool :=
  match launch.vectorMap[n]? with
  | some src =>
    if src.hardwareClear = false ∧ src.pendingBit.reg = w.1 ∧ w.1.isVolatile = true ∧ w.1 ≠ .sys .irq then
      Config.pendingAfterWrite n latch w.2
    else latch
  | none => latch

/-- Whether a write clears BTCNT: a write of BTCON with bit 1 set (10_state.md R33). -/
def clearsCount (w : Write) : Bool := w.1 == .sys .btcon && w.2.getLsbD 1

/-- The places whose write may delay the acceptance of a request (60_exceptions.md R295). -/
def slowPlaces : List Loc := [.sys .sym, .sys .imr, .ipr]

/-! ## What an instruction does -/

/-- The new value of a flag, where an instruction writes it. -/
def FlagUpdate.of (u : FlagUpdate) : Flag → Option Bool
  | .c => u.c
  | .z => u.z
  | .s => u.s
  | .v => u.v
  | .d => u.d
  | .h => u.h
  | .fis => none
  | .ba => none

/-- What an instruction needs and does: the places it reads, the bytes it writes in their order, the flags it then writes, the byte it
stores in external data memory, and where it leaves `pc`. -/
structure Access where
  reads : List Loc := []
  writes : List Write := []
  flags : FlagUpdate := {}
  store : Option (Word × Byte) := none
  pc : Word

/-- Whether every place of an access can be read and written. -/
def State.ready (s : State) (a : Access) : Bool := a.reads.all s.readable && s.writableAll s.ie a.writes

/-- `t` is `s` after an access, AND NOTHING ELSE HAS CHANGED: every place of the register file, every flag, every byte of program and data
memory, the shadow of FLAGS, the modes, the launch and the inputs are named. -/
structure State.Did (s t : State) (a : Access) : Prop where
  /-- Every place but FLAGS: what the writes left there; a place not written keeps its byte. -/
  places : ∀ l, l ≠ .sys .flags → t.stored l = s.heldAfter a.writes l
  /-- Every flag: the value written, or what the writes left in FLAGS. -/
  flags : ∀ f, t.flag f = (a.flags.of f).getD (bitAt (s.heldAfter a.writes (.sys .flags)) f.bit)
  pc : t.pc = a.pc
  /-- Every byte of program memory. -/
  program : ∀ n, t.rom.read .program n = s.rom.read .program n
  /-- Every byte of external data memory but the one stored. -/
  external : ∀ n, t.data.read .external n =
    match a.store with
    | none => s.data.read .external n
    | some (k, v) => if n = k.toNat then v else s.data.read .external n
  shadow : t.flagsShadow = s.flagsShadow
  power : t.power = s.power
  waiting : t.waiting = s.waiting
  launch : t.launch = s.launch
  env : t.env = s.env
  tick : t.tick = s.tick
  /-- The basic timer counter: cleared exactly by a write of BTCON with bit 1 set (10_state.md R33). -/
  btcnt : t.btcnt = if a.writes.any clearsCount then 0x00#8 else s.btcnt
  /-- Every latch: what the writes, one after another, leave of it (60_exceptions.md R291, log 20). -/
  pending : ∀ n, n < 22 → t.pending.getLsbD n = a.writes.foldl (latchAfter s.launch n) (s.pending.getLsbD n)
  /-- The recorded writes, latest first. -/
  events : t.events = (a.writes.filterMap recorded).reverse ++ s.events
  latency : t.latency = (s.latency || a.writes.any (fun w => slowPlaces.contains w.1))
  iprEpoch : t.iprEpoch = if a.writes.any (fun w => w.1 == .ipr) then s.tick else s.iprEpoch

/-- From every state with the invariant in which its places can be read and written, an instruction answers a next state, and does to it
exactly the access given. -/
def State.Completes (s : State) (i : Instr) (a : Access) : Prop :=
  s.inv = true → s.ready a = true → ∃ t, exec i s = .next t ∧ s.Did t a

/-! ## Runs -/

/-- The outcome of a step that is no stop. -/
def answers (o : Host.Outcome State Fault Refusal) : Bool :=
  match o with
  | .next _ => true
  | .fault _ => false
  | .refused _ => false

/-- A run of n steps is safe where none of them stops. -/
def State.safeFor : Nat → State → Bool
  | 0, _ => true
  | n + 1, s =>
    match step s with
    | .next t => t.safeFor n
    | .fault _ => false
    | .refused _ => false

end Sys2Proof.Machine
end

