-- ==== Sys2Proof/Certificates/Slice0/Obligations.lean ====
section
/-! DEFINITION. The statements for the provers. An instruction's statement says, from the rule it cites, which places it reads, what it
writes where and in which order, which flags it writes, and that it answers a next state which is that and NOTHING ELSE
(`State.Completes`: its frame names every place, flag, byte of memory and mode; Safety.lean). Places are named with the functions of
Operands.lean that the meanings use; values and flags are written here from the rules, over the natural numbers where a rule computes. -/

namespace Sys2Proof.Machine

/-! ## Places and values, as the rules write them -/

/-- `r[n]`, read (10_state.md R13). -/
def State.srcW (s : State) (n : Nibble) : Loc := s.workLoc s.srcPage n

/-- `Reg[a]`, read (10_state.md R14). -/
def State.srcR (s : State) (a : Byte) : Loc := s.regLoc s.srcPage a

/-- `RegI[a]`, read (10_state.md R15). -/
def State.srcI (s : State) (a : Byte) : Loc := .ram s.srcPage a

/-- `RegI[ r[n] ]`, read. -/
def State.srcWI (s : State) (n : Nibble) : Loc := s.srcI (s.look (s.srcW n))

/-- `RegI[ Reg[a] ]`, read. -/
def State.srcRI (s : State) (a : Byte) : Loc := s.srcI (s.look (s.srcR a))

/-- A word from its two bytes (20_memory.md R59). -/
def wordFrom (hi lo : Byte) : Word := BitVec.ofNat 16 (hi.toNat * 256 + lo.toNat)

/-- The high byte of a word. -/
def upper (w : Word) : Byte := BitVec.ofNat 8 (w.toNat / 256)

/-- The low byte of a word. -/
def lower (w : Word) : Byte := BitVec.ofNat 8 (w.toNat % 256)

/-- `rr[p]` (10_state.md R16). -/
def State.pairW (s : State) (p : Tri) : Word := wordFrom (s.look (s.srcW (pairNumber p))) (s.look (s.srcW (pairNumber p + 1#4)))

/-- The two places of `rr[p]`, read. -/
def State.pairWPlaces (s : State) (p : Tri) : List Loc := [s.srcW (pairNumber p), s.srcW (pairNumber p + 1#4)]

/-- `RR[a]` (10_state.md R16). -/
def State.pairR (s : State) (a : Byte) : Word := wordFrom (s.look (s.srcR a)) (s.look (s.srcR (a + 1#8)))

/-- The two places of `RR[a]`, read. -/
def State.pairRPlaces (s : State) (a : Byte) : List Loc := [s.srcR a, s.srcR (a + 1#8)]

/-- `RegI[p] :: RegI[p+1]`. -/
def State.pairI (s : State) (p : Byte) : Word := wordFrom (s.look (s.srcI p)) (s.look (s.srcI (p + 1#8)))

/-- The word of program memory at an address, high byte first (20_memory.md R59). -/
def State.romWord (s : State) (n : Nat) : Word := wordFrom (s.rom.read .program n) (s.rom.read .program (n + 1))

/-- A word written to `rr[p]`. -/
def State.toPairW (s : State) (p : Tri) (w : Word) : List Write :=
  [(s.dstWork (pairNumber p), upper w), (s.dstWork (pairNumber p + 1#4), lower w)]

/-- A word written to `RR[a]`. -/
def State.toPairR (s : State) (a : Byte) (w : Word) : List Write := [(s.dstReg a, upper w), (s.dstReg (a + 1#8), lower w)]

/-- Bytes pushed one after another from the stack pointer sp on (00_scope.md R8, `push8`). -/
def State.pushes (s : State) : Byte → List Byte → List Write
  | _, [] => []
  | sp, b :: bs => (.sys .spl, sp - 1#8) :: (.ram s.dstPage (sp - 1#8), b) :: s.pushes (sp - 1#8) bs

/-- The address `pc + sext_16(ra)` modulo 2^16 (43_program_control.md R215). -/
def State.nearby (s : State) (ra : Byte) : Word := BitVec.ofInt 16 (s.pc.toNat + ra.toInt)

/-- The flags Z and S of a byte, and V given (42_logic.md). -/
def zsv (res : Byte) (v : Bool) : FlagUpdate := { z := some (decide (res.toNat = 0)), s := some (decide (0x80 ≤ res.toNat)), v := some v }

/-! ## Two operands -/

/-- The five forms of 41_arithmetic.md R172, with their operands in the assembler's order. -/
inductive TwoForm where
  | r_r (dst src : Nibble)
  | r_Ir (dst src : Nibble)
  | R_R (dst src : Byte)
  | R_IR (dst src : Byte)
  | R_IM (dst im : Byte)

/-- The ten instructions with these forms. -/
inductive TwoOp where
  | add | adc | sub | sbc | cp | and | or | xor | tcm | tm

/-- Their fifty constructors. -/
def TwoOp.instr : TwoOp → TwoForm → Instr
  | .add, .r_r d n => .add_r_r d n
  | .add, .r_Ir d n => .add_r_Ir d n
  | .add, .R_R d n => .add_R_R d n
  | .add, .R_IR d n => .add_R_IR d n
  | .add, .R_IM d n => .add_R_IM d n
  | .adc, .r_r d n => .adc_r_r d n
  | .adc, .r_Ir d n => .adc_r_Ir d n
  | .adc, .R_R d n => .adc_R_R d n
  | .adc, .R_IR d n => .adc_R_IR d n
  | .adc, .R_IM d n => .adc_R_IM d n
  | .sub, .r_r d n => .sub_r_r d n
  | .sub, .r_Ir d n => .sub_r_Ir d n
  | .sub, .R_R d n => .sub_R_R d n
  | .sub, .R_IR d n => .sub_R_IR d n
  | .sub, .R_IM d n => .sub_R_IM d n
  | .sbc, .r_r d n => .sbc_r_r d n
  | .sbc, .r_Ir d n => .sbc_r_Ir d n
  | .sbc, .R_R d n => .sbc_R_R d n
  | .sbc, .R_IR d n => .sbc_R_IR d n
  | .sbc, .R_IM d n => .sbc_R_IM d n
  | .cp, .r_r d n => .cp_r_r d n
  | .cp, .r_Ir d n => .cp_r_Ir d n
  | .cp, .R_R d n => .cp_R_R d n
  | .cp, .R_IR d n => .cp_R_IR d n
  | .cp, .R_IM d n => .cp_R_IM d n
  | .and, .r_r d n => .and_r_r d n
  | .and, .r_Ir d n => .and_r_Ir d n
  | .and, .R_R d n => .and_R_R d n
  | .and, .R_IR d n => .and_R_IR d n
  | .and, .R_IM d n => .and_R_IM d n
  | .or, .r_r d n => .or_r_r d n
  | .or, .r_Ir d n => .or_r_Ir d n
  | .or, .R_R d n => .or_R_R d n
  | .or, .R_IR d n => .or_R_IR d n
  | .or, .R_IM d n => .or_R_IM d n
  | .xor, .r_r d n => .xor_r_r d n
  | .xor, .r_Ir d n => .xor_r_Ir d n
  | .xor, .R_R d n => .xor_R_R d n
  | .xor, .R_IR d n => .xor_R_IR d n
  | .xor, .R_IM d n => .xor_R_IM d n
  | .tcm, .r_r d n => .tcm_r_r d n
  | .tcm, .r_Ir d n => .tcm_r_Ir d n
  | .tcm, .R_R d n => .tcm_R_R d n
  | .tcm, .R_IR d n => .tcm_R_IR d n
  | .tcm, .R_IM d n => .tcm_R_IM d n
  | .tm, .r_r d n => .tm_r_r d n
  | .tm, .r_Ir d n => .tm_r_Ir d n
  | .tm, .R_R d n => .tm_R_R d n
  | .tm, .R_IR d n => .tm_R_IR d n
  | .tm, .R_IM d n => .tm_R_IM d n

/-- The places a form reads. -/
def TwoForm.reads (s : State) : TwoForm → List Loc
  | .r_r d n => [s.srcW d, s.srcW n]
  | .r_Ir d n => [s.srcW d, s.srcW n, s.srcWI n]
  | .R_R d n => [s.srcR d, s.srcR n]
  | .R_IR d n => [s.srcR d, s.srcR n, s.srcRI n]
  | .R_IM d _ => [s.srcR d]

/-- The first operand. -/
def TwoForm.first (s : State) : TwoForm → Byte
  | .r_r d _ => s.look (s.srcW d)
  | .r_Ir d _ => s.look (s.srcW d)
  | .R_R d _ => s.look (s.srcR d)
  | .R_IR d _ => s.look (s.srcR d)
  | .R_IM d _ => s.look (s.srcR d)

/-- The second operand. -/
def TwoForm.second (s : State) : TwoForm → Byte
  | .r_r _ n => s.look (s.srcW n)
  | .r_Ir _ n => s.look (s.srcWI n)
  | .R_R _ n => s.look (s.srcR n)
  | .R_IR _ n => s.look (s.srcRI n)
  | .R_IM _ im => im

/-- The place of the destination. -/
def TwoForm.dst (s : State) : TwoForm → Loc
  | .r_r d _ => s.dstWork d
  | .r_Ir d _ => s.dstWork d
  | .R_R d _ => s.dstReg d
  | .R_IR d _ => s.dstReg d
  | .R_IM d _ => s.dstReg d

/-- The access of a form that stores a result: `value` and `flags` are functions of the two operands. -/
def TwoForm.storing (f : TwoForm) (s : State) (value : Byte → Byte → Byte) (flags : Byte → Byte → FlagUpdate) : Access where
  reads := f.reads s
  writes := [(f.dst s, value (f.first s) (f.second s))]
  flags := flags (f.first s) (f.second s)
  pc := s.pc

/-- The access of a form that stores none. -/
def TwoForm.testing (f : TwoForm) (s : State) (flags : Byte → Byte → FlagUpdate) : Access where
  reads := f.reads s
  flags := flags (f.first s) (f.second s)
  pc := s.pc

/-- The exact sum of ADD and ADC. -/
def sumOf (cin : Bool) (a b : Byte) : Nat := a.toNat + b.toNat + cin.toNat

/-- The byte of a sum. -/
def sumByte (cin : Bool) (a b : Byte) : Byte := BitVec.ofNat 8 (sumOf cin a b)

/-- The flags of ADD and ADC (41_arithmetic.md R160, R161). -/
def sumFlags (cin : Bool) (a b : Byte) : FlagUpdate where
  c := some (decide (0x100 ≤ sumOf cin a b))
  z := some (decide (sumOf cin a b % 0x100 = 0))
  s := some (decide (0x80 ≤ sumOf cin a b % 0x100))
  v := some (decide (a.msb = b.msb ∧ (sumByte cin a b).msb ≠ a.msb))
  d := some false
  h := some (decide (0x0F < a.toNat % 16 + b.toNat % 16 + cin.toNat))

/-- The byte of a difference, SUB and SBC. -/
def differenceByte (cin : Bool) (a b : Byte) : Byte := BitVec.ofInt 8 ((a.toNat : Int) - b.toNat - cin.toNat)

/-- The flags C, Z, S, V of SUB, SBC and CP (41_arithmetic.md R162 to R164). -/
def differenceFlags (cin : Bool) (a b : Byte) : FlagUpdate where
  c := some (decide (a.toNat < b.toNat + cin.toNat))
  z := some (decide ((differenceByte cin a b).toNat = 0))
  s := some (decide (0x80 ≤ (differenceByte cin a b).toNat))
  v := some (decide (a.msb ≠ b.msb ∧ (differenceByte cin a b).msb = b.msb))

/-- The flags of SUB and SBC, D and H among them. -/
def borrowFlags (cin : Bool) (a b : Byte) : FlagUpdate :=
  { differenceFlags cin a b with d := some true, h := some (decide (a.toNat % 16 < b.toNat % 16 + cin.toNat)) }

/-! ## One operand -/

/-- The forms of the one-operand instructions: r (INC only), R, IR. -/
inductive OneForm where
  | r (dst : Nibble)
  | R (dst : Byte)
  | IR (dst : Byte)

/-- The places a form reads. -/
def OneForm.reads (s : State) : OneForm → List Loc
  | .r d => [s.srcW d]
  | .R d => [s.srcR d]
  | .IR d => [s.srcR d, s.srcRI d]

/-- The operand. -/
def OneForm.value (s : State) : OneForm → Byte
  | .r d => s.look (s.srcW d)
  | .R d => s.look (s.srcR d)
  | .IR d => s.look (s.srcRI d)

/-- The place of the destination. -/
def OneForm.dst (s : State) : OneForm → Loc
  | .r d => s.dstWork d
  | .R d => s.dstReg d
  | .IR d => s.dstInd (s.look (s.srcR d))

/-- The access of a form that stores a result with its flags. -/
def OneForm.storing (f : OneForm) (s : State) (value : Byte → Byte) (flags : Byte → FlagUpdate) : Access where
  reads := f.reads s
  writes := [(f.dst s, value (f.value s))]
  flags := flags (f.value s)
  pc := s.pc

/-- The flags of the four rotates (45_rotate_shift.md R256): C the bit rotated out, V where the sign changed. -/
def rotateFlags (out : Nat) (a res : Byte) : FlagUpdate :=
  { zsv res (decide (res.msb ≠ a.msb)) with c := some (decide (out = 1)) }

/-! ## Decimal adjust -/

/-- The table of 41_arithmetic.md R165, row by row: from D, C, H and the two nibbles, what is added and C after. -/
def decimalRule (d c h : Bool) (hi lo : Nat) : Option (Nat × Bool) :=
  match d, c, h with
  | false, false, false =>
    if hi ≤ 9 ∧ lo ≤ 9 then some (0x00, false)
    else if hi ≤ 8 ∧ 0xA ≤ lo then some (0x06, false)
    else if 0xA ≤ hi ∧ lo ≤ 9 then some (0x60, true)
    else if 9 ≤ hi ∧ 0xA ≤ lo then some (0x66, true)
    else none
  | false, false, true =>
    if hi ≤ 9 ∧ lo ≤ 3 then some (0x06, false)
    else if 0xA ≤ hi ∧ lo ≤ 3 then some (0x66, true)
    else none
  | false, true, false =>
    if hi ≤ 2 ∧ lo ≤ 9 then some (0x60, true)
    else if hi ≤ 2 ∧ 0xA ≤ lo then some (0x66, true)
    else none
  | false, true, true => if hi ≤ 3 ∧ lo ≤ 3 then some (0x66, true) else none
  | true, false, false => if hi ≤ 9 ∧ lo ≤ 9 then some (0x00, false) else none
  | true, false, true => if hi ≤ 8 ∧ 6 ≤ lo then some (0xFA, false) else none
  | true, true, false => if 7 ≤ hi ∧ lo ≤ 9 then some (0xA0, true) else none
  | true, true, true => if 6 ≤ hi ∧ 6 ≤ lo then some (0x9A, true) else none

/-- The rule's row for a byte, in the state of the flags. -/
def State.decimalRow (s : State) (a : Byte) : Option (Nat × Bool) :=
  decimalRule (s.flag .d) (s.flag .c) (s.flag .h) (a.toNat / 16) (a.toNat % 16)

/-- The result of DA: by the row; free where there is none (U16). -/
def State.decimalByte (s : State) (a : Byte) : Byte :=
  match s.decimalRow a with
  | some (k, _) => BitVec.ofNat 8 (a.toNat + k)
  | none => s.drawByte .decimalResult

/-- The flags of DA: C by the row, free where there is none; Z and S from the result; V free (D19). -/
def State.decimalFlags (s : State) (a : Byte) : FlagUpdate :=
  { zsv (s.decimalByte a) (s.drawBit .overflowFlag) with
    c := some (match s.decimalRow a with | some (_, c) => c | none => s.drawBit .carryFlag) }

/-- A number below 100 as two packed decimal digits. -/
def packed (n : Nat) : Byte := BitVec.ofNat 8 (n / 10 * 16 + n % 10)

/-! ## Words, products, quotients -/

/-- The flags of INCW and DECW: S and V; Z is free (D18). -/
def wideFlags (z : Bool) (res : Word) (v : Bool) : FlagUpdate :=
  { z := some z, s := some (decide (0x8000 ≤ res.toNat)), v := some v }

/-- The sources of MULT and DIV. -/
inductive ByteSource where
  | R (src : Byte)
  | IR (src : Byte)
  | IM (im : Byte)

/-- The places a source reads. -/
def ByteSource.reads (s : State) : ByteSource → List Loc
  | .R n => [s.srcR n]
  | .IR n => [s.srcR n, s.srcRI n]
  | .IM _ => []

/-- The byte of a source. -/
def ByteSource.value (s : State) : ByteSource → Byte
  | .R n => s.look (s.srcR n)
  | .IR n => s.look (s.srcRI n)
  | .IM im => im

/-- MULT with a source. -/
def ByteSource.mult (dst : Byte) : ByteSource → Instr
  | .R n => .mult_RR_R dst n
  | .IR n => .mult_RR_IR dst n
  | .IM im => .mult_RR_IM dst im

/-- DIV with a source. -/
def ByteSource.div (dst : Byte) : ByteSource → Instr
  | .R n => .div_RR_R dst n
  | .IR n => .div_RR_IR dst n
  | .IM im => .div_RR_IM dst im

/-! ## Loads -/

/-- The access of LD and CLR, form by form (40_load.md R121, R122). -/
def State.loadAccess (s : State) : Instr → Option Access
  | .clr_R d => some { writes := [(s.dstReg d, 0x00#8)], pc := s.pc }
  | .clr_IR d => some { reads := [s.srcR d], writes := [(s.dstInd (s.look (s.srcR d)), 0x00#8)], pc := s.pc }
  | .ld_r_IM d im => some { writes := [(s.dstWork d, im)], pc := s.pc }
  | .ld_r_R d n => some { reads := [s.srcR n], writes := [(s.dstWork d, s.look (s.srcR n))], pc := s.pc }
  | .ld_R_r d n => some { reads := [s.srcW n], writes := [(s.dstReg d, s.look (s.srcW n))], pc := s.pc }
  | .ld_r_Ir d n => some { reads := [s.srcW n, s.srcWI n], writes := [(s.dstWork d, s.look (s.srcWI n))], pc := s.pc }
  | .ld_Ir_r d n =>
    some { reads := [s.srcW d, s.srcW n], writes := [(s.dstInd (s.look (s.srcW d)), s.look (s.srcW n))], pc := s.pc }
  | .ld_R_R d n => some { reads := [s.srcR n], writes := [(s.dstReg d, s.look (s.srcR n))], pc := s.pc }
  | .ld_R_IR d n => some { reads := [s.srcR n, s.srcRI n], writes := [(s.dstReg d, s.look (s.srcRI n))], pc := s.pc }
  | .ld_R_IM d im => some { writes := [(s.dstReg d, im)], pc := s.pc }
  | .ld_IR_IM d im => some { reads := [s.srcR d], writes := [(s.dstInd (s.look (s.srcR d)), im)], pc := s.pc }
  | .ld_IR_R d n =>
    some { reads := [s.srcR d, s.srcR n], writes := [(s.dstInd (s.look (s.srcR d)), s.look (s.srcR n))], pc := s.pc }
  | .ld_r_X d x n =>
    some
      { reads := [s.srcW n, s.srcI (x + s.look (s.srcW n))]
        writes := [(s.dstWork d, s.look (s.srcI (x + s.look (s.srcW n))))]
        pc := s.pc }
  | .ld_X_r x n q =>
    some { reads := [s.srcW n, s.srcW q], writes := [(s.dstInd (x + s.look (s.srcW n)), s.look (s.srcW q))], pc := s.pc }
  | _ => none

/-- The forms of LDC and LDE that name a memory address: through a pair plus an offset, or directly. -/
inductive MemForm where
  | Irr (p : Tri)
  | XS (p : Tri) (xs : Byte)
  | XL (p : Tri) (xl : Word)
  | DA (da : Word)

/-- LDC to a working register. -/
def MemForm.ldc (d : Nibble) : MemForm → Instr
  | .Irr p => .ldc_r_Irr d p
  | .XS p xs => .ldc_r_XS d p xs
  | .XL p xl => .ldc_r_XL d p xl
  | .DA da => .ldc_r_DA d da

/-- LDE to a working register. -/
def MemForm.lde (d : Nibble) : MemForm → Instr
  | .Irr p => .lde_r_Irr d p
  | .XS p xs => .lde_r_XS d p xs
  | .XL p xl => .lde_r_XL d p xl
  | .DA da => .lde_r_DA d da

/-- LDC from a working register. -/
def MemForm.ldcStore (n : Nibble) : MemForm → Instr
  | .Irr p => .ldc_Irr_r p n
  | .XS p xs => .ldc_XS_r p xs n
  | .XL p xl => .ldc_XL_r p xl n
  | .DA da => .ldc_DA_r da n

/-- LDE from a working register. -/
def MemForm.ldeStore (n : Nibble) : MemForm → Instr
  | .Irr p => .lde_Irr_r p n
  | .XS p xs => .lde_XS_r p xs n
  | .XL p xl => .lde_XL_r p xl n
  | .DA da => .lde_DA_r da n

/-- The places a form reads to find its address. -/
def MemForm.reads (s : State) : MemForm → List Loc
  | .Irr p => s.pairWPlaces p
  | .XS p _ => s.pairWPlaces p
  | .XL p _ => s.pairWPlaces p
  | .DA _ => []

/-- The address of a form, modulo 2^16 (40_load.md R132 to R139). -/
def MemForm.address (s : State) : MemForm → Word
  | .Irr p => s.pairW p
  | .XS p xs => BitVec.ofInt 16 ((s.pairW p).toNat + xs.toInt)
  | .XL p xl => BitVec.ofNat 16 ((s.pairW p).toNat + xl.toNat)
  | .DA da => da

/-- The writes of LDCD, LDCI, LDED, LDEI: the byte v to `r[d]`, then the word w to the pair; where `r[d]` is a register of the pair, that
register gets a free byte (U11, log 12). -/
def State.stepWrites (s : State) (d : Nibble) (p : Tri) (v : Byte) (w : Word) : List Write :=
  if s.dstWork d = s.dstWork (pairNumber p) then
    [(s.dstWork (pairNumber p), s.drawByte .overlap), (s.dstWork (pairNumber p + 1#4), lower w)]
  else if s.dstWork d = s.dstWork (pairNumber p + 1#4) then
    [(s.dstWork (pairNumber p), upper w), (s.dstWork (pairNumber p + 1#4), s.drawByte .overlap)]
  else (s.dstWork d, v) :: s.toPairW p w

/-! ## Bits -/

/-- The three one-bit operations with two forms (44_bit_manipulation.md R230 to R232). -/
inductive BitOp where
  | and | or | xor

/-- The bit of an operation. -/
def BitOp.on : BitOp → Bool → Bool → Bool
  | .and, x, y => x && y
  | .or, x, y => x || y
  | .xor, x, y => x != y

/-- Form r0,Rb. -/
def BitOp.toWork : BitOp → Nibble → Byte → Tri → Instr
  | .and, d, n, b => .band_r0_Rb d n b
  | .or, d, n, b => .bor_r0_Rb d n b
  | .xor, d, n, b => .bxor_r0_Rb d n b

/-- Form Rb,r0. -/
def BitOp.toReg : BitOp → Byte → Tri → Nibble → Instr
  | .and, d, b, n => .band_Rb_r0 d b n
  | .or, d, b, n => .bor_Rb_r0 d b n
  | .xor, d, b, n => .bxor_Rb_r0 d b n

/-- Bit b of a byte. -/
def bitOf (x : Byte) (b : Tri) : Bool := x.toNat.testBit b.toNat

/-- A byte with bit b replaced by v, its other seven bits kept (R240). -/
def replaced (x : Byte) (b : Tri) (v : Bool) : Byte := (x &&& ~~~(BitVec.twoPow 8 b.toNat)) ||| (if v then BitVec.twoPow 8 b.toNat else 0#8)

/-- The flags of a one-bit result v (R240): Z where it is 0, S cleared, V free. -/
def State.oneBitFlags (s : State) (v : Bool) : FlagUpdate :=
  { z := some (v == false), s := some false, v := some (s.drawBit .overflowFlag) }

/-! ## Control flow -/

/-- The access of the jumps: only pc (43_program_control.md R200, R201, R207, R211). -/
def State.jumpAccess (s : State) : Instr → Option Access
  | .btjrf_RA_rb ra n b =>
    some { reads := [s.srcW n], pc := if bitOf (s.look (s.srcW n)) b = false then s.nearby ra else s.pc }
  | .btjrt_RA_rb ra n b =>
    some { reads := [s.srcW n], pc := if bitOf (s.look (s.srcW n)) b = true then s.nearby ra else s.pc }
  | .jp_cc_DA cc da => some { pc := if condHolds s.flags cc then da else s.pc }
  | .jr_cc_RA cc ra => some { pc := if condHolds s.flags cc then s.nearby ra else s.pc }
  | .jp_IRR d => if bitOf d 0#3 = false then some { reads := s.pairRPlaces d, pc := s.pairR d } else none
  | _ => none

/-- The writes that push the return address, low byte first (43_program_control.md R202). -/
def State.pushesPc (s : State) : List Write := s.pushes s.spl [lower s.pc, upper s.pc]

/-- The value of a condition (30_encoding.md R84): the base condition of bits 2..0, inverted by bit 3. -/
def conditionRule (c z s v : Bool) (cc : Nat) : Bool :=
  let base :=
    match cc % 8 with
    | 0 => false
    | 1 => s != v
    | 2 => z || (s != v)
    | 3 => c || z
    | 4 => v
    | 5 => s
    | 6 => z
    | _ => c
  if 8 ≤ cc then !base else base

/-- The sixteen conditions in the order of their codes (30_encoding.md R84). -/
def conditionCodes : List Cond := [.f, .lt, .le, .ule, .ov, .mi, .z, .c, .t, .ge, .gt, .ugt, .nov, .pl, .nz, .nc]

/-! ## Interrupts -/

/-- An external source's latch is set, the source enabled, its level unmasked: what ends Stop mode (46_cpu_control.md R272). Enabled is the
enable bit as last written: THE MODEL'S CHOICE (log 46). -/
def State.externalRequest (s : State) : Prop :=
  ∃ n src, s.launch.vectorMap[n]? = some src ∧ src.external = true ∧ s.pending.getLsbD n = true
    ∧ bitOf (s.stored src.enable.reg) src.enable.bit = true ∧ bitOf s.imr src.level = true

/-- A boundary with no input to come at which a request that can be served is taken for certain: of the running machine, the last
instruction no delaying one (60_exceptions.md R295) or a WFI waiting; of Idle mode (46_cpu_control.md R270); of Stop mode while an
external source requests (R272). -/
def State.settled (s : State) : Prop :=
  s.inv = true ∧ s.env = []
    ∧ (s.power = .run ∧ (s.latency = false ∨ s.waiting = true) ∨ s.power = .idle ∨ s.power = .stop ∧ s.externalRequest)

/-- What the boundary's core fields are after a step that takes an interrupt. -/
structure State.Entered (s t : State) : Prop where
  waiting : t.waiting = false
  latency : t.latency = false
  tick : t.tick = s.tick + 1
  power : t.power = .run
  launch : t.launch = s.launch
  program : t.rom = s.rom
  external : t.data = s.data
  env : t.env = s.env
  events : t.events = s.events
  btcnt : t.btcnt = s.btcnt
  iprEpoch : t.iprEpoch = s.iprEpoch

/-- What IRET leaves beside the register file and pc: everything as before, but the mark `latency` of the next boundary, the model's own
field, which it sets (60_exceptions.md R295, log 16). -/
structure State.Returned (s t : State) : Prop where
  program : t.rom = s.rom
  external : t.data = s.data
  pending : t.pending = s.pending
  shadow : t.flagsShadow = s.flagsShadow
  power : t.power = s.power
  waiting : t.waiting = s.waiting
  launch : t.launch = s.launch
  env : t.env = s.env
  tick : t.tick = s.tick
  events : t.events = s.events
  btcnt : t.btcnt = s.btcnt
  iprEpoch : t.iprEpoch = s.iprEpoch
  latency : t.latency = true

/-! ## The next instruction -/

/-- A running machine with no input to come, no wait and no request to serve: its next step fetches at pc. -/
def State.fetchesNext (s : State) : Prop := s.env = [] ∧ s.power = .run ∧ s.waiting = false ∧ s.served = none

/-- The byte of program memory k after the one at pc. -/
def State.codeAt (s : State) (k : Nat) : Byte := s.rom.read .program (s.pc.toNat + k)

/-- The bytes from pc on, all at or below ROM_TOP, are the encoding of a well-formed instruction. -/
def State.holdsNext (s : State) (i : Instr) : Prop :=
  i.wellFormed = true ∧ s.pc.toNat + (encode i).length ≤ s.launch.part.romTop + 1
    ∧ ∀ k (h : k < (encode i).length), s.codeAt k = (encode i)[k]

/-- `exec` of an instruction from the state with pc moved past it (10_state.md R21) and the mark of the last one cleared, the step
counted. -/
def State.runsNext (s : State) (i : Instr) : Host.Outcome State Fault Refusal :=
  ticked (exec i ((s.setPc (s.pc + BitVec.ofNat 16 (encode i).length)).setLatency false))

/-- `t` is `s` after a reset during a run (10_state.md R40; 70_reset_and_hazards.md R326). -/
structure State.ResetFrom (s t : State) : Prop where
  pc : t.pc = 0x0100#16
  fis : t.flag .fis = false
  ba : t.flag .ba = false
  pointers : t.rp0 = 0xC0#8 ∧ t.rp1 = 0xC8#8
  requests : t.pending = 0#22 ∧ t.look (.sys .irq) = 0x00#8
  enables : t.ie = false ∧ t.fie = false
  page : t.pp = 0x00#8
  timers : t.btcon = 0x00#8 ∧ t.clkcon = 0x00#8 ∧ t.t0cnt = 0x00#8 ∧ t.t0data = 0xFF#8 ∧ t.t0con = 0x00#8
  running : t.power = .run ∧ t.waiting = false
  ram : ∀ p a, t.stored (.ram p a) = s.stored (.ram p a)
  common : ∀ n, t.stored (.common n) = s.stored (.common n)
  memories : t.rom = s.rom ∧ t.data = s.data ∧ t.launch = s.launch

end Sys2Proof.Machine

open Sys2Proof Sys2Proof.Machine

/-! ## Encoding -/

/-- Decoding the encoding of a well-formed instruction, with any bytes after it, gives the instruction and those bytes: no bit of an
operand is dropped (30_encoding.md R83, R86, R87). -/
def Obligations.DecodeOfEncode : Prop :=
  ∀ (i : Instr) (rest : List Byte), i.wellFormed = true → decode (encode i ++ rest) = .ok (i, rest)

/-- Whatever decodes is the encoding of a well-formed instruction: the decoder reads every bit of what it consumes, and nothing else
decodes to that instruction (R83, R86 to R88). -/
def Obligations.EncodeOfDecode : Prop :=
  ∀ (bytes : List Byte) (i : Instr) (rest : List Byte),
    decode bytes = .ok (i, rest) → i.wellFormed = true ∧ bytes = encode i ++ rest

/-- A few words written out from the encodings of R83, R86, R87, one of every family. -/
def Obligations.WordsDecode : Prop :=
  decode [0x02#8, 0x12#8] = .ok (.add_r_r 1#4 2#4, [])
    ∧ decode [0xE4#8, 0x01#8, 0x00#8] = .ok (.ld_R_R 0x00#8 0x01#8, [])
    ∧ decode [0xA7#8, 0x02#8, 0x00#8, 0x10#8] = .ok (.ldc_r_XL 0#4 1#3 0x1000#16, [])
    ∧ decode [0x60#8, 0xC1#8] = .ok (.com_R 0xC1#8, [])
    ∧ decode [0xF6#8, 0x35#8, 0x21#8] = .ok (.call_DA 0x3521#16, [])
    ∧ decode [0x67#8, 0x13#8, 0x01#8] = .ok (.band_Rb_r0 0x01#8 1#3 1#4, [])
    ∧ decode [0xD0#8, 0x00#8] = .ok (.sra_R 0x00#8, [])
    ∧ decode [0x31#8, 0x52#8] = .ok (.srp0_IM 0x0A#5 0#1, [])

/-- The encodings without an instruction (R88): first byte D5H, 31H with low bits 11B, 17H and 57H with selector 1, an odd operand of
CALL IA, an odd pair in every instruction that names one; whatever follows. -/
def Obligations.ReservedEncodingsRejected : Prop :=
  ∀ (b c x : Byte) (rest : List Byte),
    decode (0xD5#8 :: rest) = .error .illegalOpcode
      ∧ (b &&& 3#8 = 3#8 → decode (0x31#8 :: b :: rest) = .error .illegalOpcode)
      ∧ (bitOf b 0#3 = true →
        decode (0x17#8 :: b :: c :: rest) = .error .illegalOpcode ∧ decode (0x57#8 :: b :: rest) = .error .illegalOpcode
          ∧ decode (0xD4#8 :: b :: rest) = .error .oddTableAddress
          ∧ (∀ op ∈ [0xA0#8, 0x80#8, 0x30#8, 0xF4#8], decode (op :: b :: rest) = .error .oddPair)
          ∧ (∀ op ∈ [0x84#8, 0x85#8, 0x86#8, 0x94#8, 0x95#8, 0x96#8, 0xC4#8, 0xC5#8],
            decode (op :: c :: b :: rest) = .error .oddPair)
          ∧ decode (0xC4#8 :: b :: c :: rest) = .error .oddPair ∧ decode (0xC6#8 :: b :: c :: x :: rest) = .error .oddPair)

/-! ## The step -/

/-- A step of a running machine with no request to serve and no wait runs the instruction whose bytes stand at pc, with pc moved past
them (10_state.md R21): `exec` of it, the step counted. RIGHT AFTER EI, IRET or a write to SYM, IMR or IPR a request to serve may be taken
already or one instruction later (60_exceptions.md R295): the step runs the instruction, or it is the step of the same state without
that mark, which `NormalEntry` and `FastEntry` describe. That the new SYM, IMR and IPR alone say which request this is, is THE MODEL'S
CHOICE (log 16). -/
def Obligations.StepRunsDecodedInstruction : Prop :=
  ∀ (s : State) (i : Instr), s.holdsNext i →
    (s.fetchesNext → step s = s.runsNext i)
      ∧ (s.env = [] → s.power = .run → s.waiting = false → s.latency = true →
        step s = s.runsNext i ∨ step s = step { s with latency := false })

/-- The state after reset has the invariant. -/
def Obligations.ResetHasInvariant : Prop := State.reset.inv = true

/-- THE INVARIANT: every step keeps it, from every state that has it, whatever the instruction, the inputs and the free values: the
memories stay canonical, bits 2..0 of the register pointers stay 0 (R27), the unused bits stay unstored, PP names pages that exist, the
launch keeps the counts of the chip (00_scope.md R4, 60_exceptions.md R285). -/
def Obligations.StepKeepsInvariant : Prop := ∀ s t : State, s.inv = true → step s = .next t → t.inv = true

/-- No step changes program memory or a launch parameter: the core cannot write its program (20_memory.md R54, R55, R67). -/
def Obligations.StepKeepsProgram : Prop := ∀ s t : State, step s = .next t → t.rom = s.rom ∧ t.launch = s.launch

/-- The values R40 gives the registers after reset. -/
def Obligations.ResetValues : Prop :=
  State.reset.pc = 0x0100#16 ∧ State.reset.flag .fis = false ∧ State.reset.flag .ba = false ∧ State.reset.rp0 = 0xC0#8
    ∧ State.reset.rp1 = 0xC8#8 ∧ State.reset.look (.sys .irq) = 0x00#8 ∧ State.reset.sym.msb = false ∧ State.reset.fie = false
    ∧ State.reset.ie = false ∧ State.reset.pp = 0x00#8 ∧ State.reset.btcon = 0x00#8 ∧ State.reset.clkcon = 0x00#8
    ∧ State.reset.t0cnt = 0x00#8 ∧ State.reset.t0data = 0xFF#8 ∧ State.reset.t0con = 0x00#8 ∧ State.reset.power = .run

/-! ## Operands -/

/-- The working-register window (10_state.md R13): n below 8 through RP0, from 8 on through RP1, the pointer's bits 2..0 unused. -/
def Obligations.WorkingRegisterWindow : Prop :=
  ∀ (s : State) (n : Nibble) (page : Nibble),
    s.workLoc page n
      = s.physLoc page (BitVec.ofNat 8 ((if n.toNat < 8 then s.rp0 else s.rp1).toNat / 8 * 8 + n.toNat % 8))

/-- Register addressing (R14): the escape of C0H to CFH to the working registers; else the prime area of the page, the common area,
the system registers, and the bank FLAGS.BA selects, with IPR at FFH of bank 0. -/
def Obligations.RegisterAddressing : Prop :=
  ∀ (s : State) (page : Nibble) (a : Byte),
    (a.toNat < 0xC0 → s.regLoc page a = .ram page a)
      ∧ (0xC0 ≤ a.toNat → a.toNat < 0xD0 → s.regLoc page a = s.workLoc page (BitVec.ofNat 4 (a.toNat - 0xC0)))
      ∧ (0xC0 ≤ a.toNat → a.toNat < 0xD0 → s.physLoc page a = .common (BitVec.ofNat 4 (a.toNat - 0xC0)))
      ∧ (∀ k, (h : k < 16) → a.toNat = 0xD0 + k → s.regLoc page a =
          .sys ([SysReg.t0cnt, .t0data, .t0con, .btcon, .clkcon, .flags, .rp0, .rp1, .sph, .spl, .iph, .ipl, .irq, .imr, .sym, .pp][k]'h))
      ∧ (0xE0 ≤ a.toNat → ¬(a = 0xFF#8 ∧ s.flag .ba = false) →
          s.regLoc page a = .bank (s.flag .ba) (BitVec.ofNat 5 (a.toNat - 0xE0)))
      ∧ (a = 0xFF#8 → s.flag .ba = false → s.regLoc page a = .ipr)

/-- One byte, several names (R17): after any byte is written to `Reg[a]` of the prime area, the computed address a reads it, and so does
the working register whose pointer points there. -/
def Obligations.AliasesReadTheWrite : Prop :=
  ∀ (s t : State) (a v : Byte) (n : Nibble), s.inv = true → a.toNat < 0xC0 → s.srcPage = s.dstPage →
    s.writeLoc (s.dstReg a) v = .ok t →
    t.readInd a = .ok v ∧ t.readReg a = .ok v
      ∧ ((if n.toNat < 8 then s.rp0 else s.rp1).toNat / 8 * 8 + n.toNat % 8 = a.toNat → t.readWork n = .ok v)

/-- IRQ (10_state.md R30; 60_exceptions.md R289): bit n reads 1 exactly while some source of level n has its latch set and is enabled,
whatever IMR and SYM.0; a write has no effect on the machine; it reads 00H after reset. THE MODEL'S CHOICES: IRQ is computed and not stored
(log 19), the enable bit is the one last written (log 46), and a write to IRQ is recorded as an event, as 20_memory.md R62 has it of
every volatile register (log 18, log 43). -/
def Obligations.RequestRegister : Prop :=
  (∀ (s : State) (lv : Tri),
    bitOf (s.look (.sys .irq)) lv = true
      ↔ ∃ n src, s.launch.vectorMap[n]? = some src ∧ src.level = lv ∧ s.pending.getLsbD n = true
          ∧ bitOf (s.stored src.enable.reg) src.enable.bit = true)
    ∧ (∀ (s : State) (im : Byte),
      exec (.ld_R_IM 0xDC#8 im) s = .next { s with events := { loc := .sys .irq, value := im } :: s.events })
    ∧ State.reset.look (.sys .irq) = 0x00#8

/-- The conditions of JP and JR (30_encoding.md R84), all sixteen codes, all values of FLAGS: the 4-bit code k is decoded to, and encoded
from, the k-th condition of the table, which holds as its row says. -/
def Obligations.ConditionCodes : Prop :=
  ∀ (flags : Byte) (k : Nat) (h : k < conditionCodes.length),
    Cond.ofCode (BitVec.ofNat 4 k) = conditionCodes[k] ∧ conditionCodes[k].code = BitVec.ofNat 4 k
      ∧ condHolds flags conditionCodes[k] = conditionRule (bitOf flags 7#3) (bitOf flags 6#3) (bitOf flags 5#3) (bitOf flags 4#3) k

/-! ## Load -/

/-- LD in its twelve forms and CLR in its two (40_load.md R121, R122). -/
def Obligations.LoadsAndClears : Prop := ∀ (s : State) (i : Instr) (a : Access), s.loadAccess i = some a → s.Completes i a

/-- LDC and LDE to a working register, every addressing form (R132, R134, R136, R138): the byte of program memory at an address
up to ROM_TOP; of external data memory where the launch has one. -/
def Obligations.MemoryLoads : Prop :=
  ∀ (s : State) (f : MemForm) (d : Nibble),
    ((f.address s).toNat ≤ s.launch.part.romTop →
        s.Completes (f.ldc d)
          { reads := f.reads s, writes := [(s.dstWork d, s.rom.read .program (f.address s).toNat)], pc := s.pc })
      ∧ (s.launch.hasExtDataMem = true →
        s.Completes (f.lde d)
          { reads := f.reads s, writes := [(s.dstWork d, s.data.read .external (f.address s).toNat)], pc := s.pc })

/-- LDCD, LDCI, LDED, LDEI (R140, R141): the load, and the pair one less or one more modulo 2^16. Where the loaded register is one of
the pair's, the order of the two writes is open and that register gets a free byte: THE MODEL'S CHOICE (U11, log 12). -/
def Obligations.MemoryLoadsThenStep : Prop :=
  ∀ (s : State) (d : Nibble) (p : Tri),
    ((s.pairW p).toNat ≤ s.launch.part.romTop →
        s.Completes (.ldcd_r_Irr d p)
            { reads := s.pairWPlaces p
              writes := s.stepWrites d p (s.rom.read .program (s.pairW p).toNat) (s.pairW p - 1#16)
              pc := s.pc }
          ∧ s.Completes (.ldci_r_Irr d p)
            { reads := s.pairWPlaces p
              writes := s.stepWrites d p (s.rom.read .program (s.pairW p).toNat) (s.pairW p + 1#16)
              pc := s.pc })
      ∧ (s.launch.hasExtDataMem = true →
        s.Completes (.lded_r_Irr d p)
            { reads := s.pairWPlaces p
              writes := s.stepWrites d p (s.data.read .external (s.pairW p).toNat) (s.pairW p - 1#16)
              pc := s.pc }
          ∧ s.Completes (.ldei_r_Irr d p)
            { reads := s.pairWPlaces p
              writes := s.stepWrites d p (s.data.read .external (s.pairW p).toNat) (s.pairW p + 1#16)
              pc := s.pc })

/-- LDE from a working register, every addressing form, where the launch has external data memory (R133, R135, R137, R139). -/
def Obligations.ExternalStores : Prop :=
  ∀ (s : State) (f : MemForm) (n : Nibble), s.launch.hasExtDataMem = true →
    s.Completes (f.ldeStore n)
      { reads := f.reads s ++ [s.srcW n], store := some (f.address s, s.look (s.srcW n)), pc := s.pc }

/-- LDEPD and LDEPI (R142, R143): first the pair one less or one more, giving the state s1; then the register, as it stands in s1, is
stored at the new address. THE MODEL'S CHOICE where the pair lies in registers that drop bits or are volatile: the address is the word
computed (log 48), the register is read after the pair has changed (log 30). -/
def Obligations.StepThenExternalStores : Prop :=
  ∀ (s : State) (p : Tri) (n : Nibble) (i : Instr) (w : Word), s.inv = true → s.launch.hasExtDataMem = true →
    (i = .ldepd_Irr_r p n ∧ w = s.pairW p - 1#16 ∨ i = .ldepi_Irr_r p n ∧ w = s.pairW p + 1#16) →
    s.ready { reads := s.pairWPlaces p ++ [s.srcW n], writes := s.toPairW p w, pc := s.pc } = true →
    ∃ s1 t, s.Did s1 { writes := s.toPairW p w, pc := s.pc } ∧ exec i s = .next t
      ∧ s1.Did t { store := some (w, s1.look (s.srcW n)), pc := s.pc }

/-- LDCPD, LDCPI and the store forms of LDC stop in every state: program memory cannot be written (20_memory.md R55; U8). -/
def Obligations.ProgramStoresStop : Prop :=
  ∀ (s : State) (f : MemForm) (p : Tri) (n : Nibble),
    exec (f.ldcStore n) s = .refused .programStore ∧ exec (.ldcpd_Irr_r p n) s = .refused .programStore
      ∧ exec (.ldcpi_Irr_r p n) s = .refused .programStore

/-- The LDE family without external data memory stops (20_memory.md R57; U26), wherever its registers can be accessed. -/
def Obligations.ExternalMemoryAbsentStops : Prop :=
  ∀ (s : State) (f : MemForm) (d n : Nibble) (p : Tri), s.launch.hasExtDataMem = false →
    s.ready { reads := f.reads s ++ s.pairWPlaces p ++ [s.srcW n], writes := s.toPairW p (s.pairW p - 1#16), pc := s.pc } = true →
    exec (f.lde d) s = .refused .noDataMemory ∧ exec (.lded_r_Irr d p) s = .refused .noDataMemory
      ∧ exec (.ldei_r_Irr d p) s = .refused .noDataMemory ∧ exec (f.ldeStore n) s = .refused .noDataMemory
      ∧ (s.writableAll s.ie (s.toPairW p (s.pairW p + 1#16)) = true →
        exec (.ldepd_Irr_r p n) s = .refused .noDataMemory ∧ exec (.ldepi_Irr_r p n) s = .refused .noDataMemory)

/-- LDW in its three forms, the pairs even (R144). -/
def Obligations.WordLoads : Prop :=
  ∀ (s : State) (d n : Byte) (w : Word), bitOf d 0#3 = false →
    (bitOf n 0#3 = false →
        s.Completes (.ldw_RR_RR d n) { reads := s.pairRPlaces n, writes := s.toPairR d (s.pairR n), pc := s.pc })
      ∧ (bitOf (s.look (s.srcR n)) 0#3 = false →
        s.Completes (.ldw_RR_IR d n)
          { reads := [s.srcR n, s.srcRI n, s.srcI (s.look (s.srcR n) + 1#8)]
            writes := s.toPairR d (s.pairI (s.look (s.srcR n)))
            pc := s.pc })
      ∧ s.Completes (.ldw_RR_IML d w) { writes := s.toPairR d w, pc := s.pc }

/-- PUSH and POP (R145, R148): the stack in the computed-address view, SP moving by one modulo 256; the pointer of POP IR read after SP
moved. POP SPL leaves a free byte in SPL: THE MODEL'S CHOICE (U11, log 12). -/
def Obligations.PushAndPop : Prop :=
  ∀ (s : State) (a : Byte),
    s.Completes (.push_R a) { reads := [s.srcR a], writes := s.pushes s.spl [s.look (s.srcR a)], pc := s.pc }
      ∧ s.Completes (.push_IR a) { reads := [s.srcR a, s.srcRI a], writes := s.pushes s.spl [s.look (s.srcRI a)], pc := s.pc }
      ∧ s.Completes (.pop_R a)
        { reads := [s.srcI s.spl]
          writes :=
            [(.sys .spl, s.spl + 1#8),
             (s.dstReg a, if s.dstReg a = .sys .spl then s.drawByte .overlap else s.look (s.srcI s.spl))]
          pc := s.pc }
      ∧ s.Completes (.pop_IR a)
        { reads := [s.srcI s.spl, s.srcR a]
          writes :=
            [(.sys .spl, s.spl + 1#8),
             (s.dstInd ((s.setSpl (s.spl + 1#8)).look (s.srcR a)), s.look (s.srcI s.spl))]
          pc := s.pc }

/-- The user stacks (R146, R147, R149, R150): the pointer register and the byte, in the rules' order. Where both operands name one
register, the byte popped to it or pushed is free: THE MODEL'S CHOICE (U11, log 12). -/
def Obligations.UserStacks : Prop :=
  ∀ (s : State) (d n : Byte),
    (∀ i k, (i = .popud_R_IR d n ∧ k = 0xFF#8 ∨ i = .popui_R_IR d n ∧ k = 0x01#8) →
        s.Completes i
          { reads := [s.srcR n, s.srcRI n]
            writes :=
              if s.dstReg d = s.dstReg n then [(s.dstReg d, s.drawByte .overlap)]
              else [(s.dstReg d, s.look (s.srcRI n)), (s.dstReg n, s.look (s.srcR n) + k)]
            pc := s.pc })
      ∧ (∀ i k, (i = .pushud_IR_R d n ∧ k = 0xFF#8 ∨ i = .pushui_IR_R d n ∧ k = 0x01#8) →
        s.Completes i
          { reads := [s.srcR n, s.srcR d]
            writes :=
              [(s.dstReg d, s.look (s.srcR d) + k),
               (s.dstInd (s.look (s.srcR d) + k), if s.dstReg d = s.dstReg n then s.drawByte .overlap else s.look (s.srcR n))]
            pc := s.pc })

/-! ## Arithmetic and logic -/

/-- ADD and ADC in their five forms (41_arithmetic.md R160, R161, R172). -/
def Obligations.Addition : Prop :=
  ∀ (s : State) (f : TwoForm),
    s.Completes (TwoOp.add.instr f) (f.storing s (sumByte false) (sumFlags false))
      ∧ s.Completes (TwoOp.adc.instr f) (f.storing s (sumByte (s.flag .c)) (sumFlags (s.flag .c)))

/-- SUB and SBC in their five forms (R162, R163, R172). -/
def Obligations.Subtraction : Prop :=
  ∀ (s : State) (f : TwoForm),
    s.Completes (TwoOp.sub.instr f) (f.storing s (differenceByte false) (borrowFlags false))
      ∧ s.Completes (TwoOp.sbc.instr f) (f.storing s (differenceByte (s.flag .c)) (borrowFlags (s.flag .c)))

/-- CP, TCM and TM in their five forms write flags and nothing else: CP the C, Z, S, V of a subtraction, D and H kept (41_arithmetic.md R164);
TCM and TM Z and S of the masked byte, V cleared (44_bit_manipulation.md R238, R239). -/
def Obligations.ComparisonsAndTests : Prop :=
  ∀ (s : State) (f : TwoForm),
    s.Completes (TwoOp.cp.instr f) (f.testing s (differenceFlags false))
      ∧ s.Completes (TwoOp.tcm.instr f) (f.testing s (fun a b => zsv (~~~a &&& b) false))
      ∧ s.Completes (TwoOp.tm.instr f) (f.testing s (fun a b => zsv (a &&& b) false))

/-- AND, OR, XOR in their five forms, COM in its two (42_logic.md R190 to R193): Z and S of the result, V cleared, C, D, H kept. -/
def Obligations.BitwiseLogic : Prop :=
  ∀ s : State,
    (∀ f : TwoForm,
        s.Completes (TwoOp.and.instr f) (f.storing s (fun a b => a &&& b) (fun a b => zsv (a &&& b) false))
          ∧ s.Completes (TwoOp.or.instr f) (f.storing s (fun a b => a ||| b) (fun a b => zsv (a ||| b) false))
          ∧ s.Completes (TwoOp.xor.instr f) (f.storing s (fun a b => a ^^^ b) (fun a b => zsv (a ^^^ b) false)))
      ∧ ∀ (d : Byte) (f : OneForm) (i : Instr), (f = .R d ∧ i = .com_R d ∨ f = .IR d ∧ i = .com_IR d) →
        s.Completes i
          (f.storing s (fun a => BitVec.ofNat 8 (0xFF - a.toNat)) (fun a => zsv (BitVec.ofNat 8 (0xFF - a.toNat)) false))

/-- INC in its three forms, DEC in its two (41_arithmetic.md R166, R167): C, D, H kept. -/
def Obligations.IncrementAndDecrement : Prop :=
  ∀ (s : State) (d : Byte) (n : Nibble),
    (∀ f i, (f = .r n ∧ i = .inc_r n ∨ f = .R d ∧ i = .inc_R d ∨ f = .IR d ∧ i = .inc_IR d) →
        s.Completes i
          (OneForm.storing f s (fun a => BitVec.ofNat 8 (a.toNat + 1))
            (fun a => zsv (BitVec.ofNat 8 (a.toNat + 1)) (decide (a.toNat = 0x7F)))))
      ∧ (∀ f i, (f = .R d ∧ i = .dec_R d ∨ f = .IR d ∧ i = .dec_IR d) →
        s.Completes i
          (OneForm.storing f s (fun a => BitVec.ofNat 8 (a.toNat + 0xFF))
            (fun a => zsv (BitVec.ofNat 8 (a.toNat + 0xFF)) (decide (a.toNat = 0x80)))))

/-- RL, RLC, RR, RRC in their two forms (45_rotate_shift.md R250 to R253, R256). -/
def Obligations.Rotates : Prop :=
  ∀ (s : State) (d : Byte) (f : OneForm),
    (∀ i, (f = .R d ∧ i = .rl_R d ∨ f = .IR d ∧ i = .rl_IR d) →
        s.Completes i
          (f.storing s (fun a => BitVec.ofNat 8 (a.toNat * 2 + a.toNat / 128))
            (fun a => rotateFlags (a.toNat / 128) a (BitVec.ofNat 8 (a.toNat * 2 + a.toNat / 128)))))
      ∧ (∀ i, (f = .R d ∧ i = .rlc_R d ∨ f = .IR d ∧ i = .rlc_IR d) →
        s.Completes i
          (f.storing s (fun a => BitVec.ofNat 8 (a.toNat * 2 + (s.flag .c).toNat))
            (fun a => rotateFlags (a.toNat / 128) a (BitVec.ofNat 8 (a.toNat * 2 + (s.flag .c).toNat)))))
      ∧ (∀ i, (f = .R d ∧ i = .rr_R d ∨ f = .IR d ∧ i = .rr_IR d) →
        s.Completes i
          (f.storing s (fun a => BitVec.ofNat 8 (a.toNat / 2 + a.toNat % 2 * 128))
            (fun a => rotateFlags (a.toNat % 2) a (BitVec.ofNat 8 (a.toNat / 2 + a.toNat % 2 * 128)))))
      ∧ (∀ i, (f = .R d ∧ i = .rrc_R d ∨ f = .IR d ∧ i = .rrc_IR d) →
        s.Completes i
          (f.storing s (fun a => BitVec.ofNat 8 (a.toNat / 2 + (s.flag .c).toNat * 128))
            (fun a => rotateFlags (a.toNat % 2) a (BitVec.ofNat 8 (a.toNat / 2 + (s.flag .c).toNat * 128)))))

/-- SRA and SWAP in their two forms (R254, R255): SRA halves the signed operand; C and V of SWAP are free (D19). -/
def Obligations.ShiftAndSwap : Prop :=
  ∀ (s : State) (d : Byte) (f : OneForm),
    (∀ i, (f = .R d ∧ i = .sra_R d ∨ f = .IR d ∧ i = .sra_IR d) →
        s.Completes i
          (f.storing s (fun a => BitVec.ofInt 8 (a.toInt / 2))
            (fun a => { zsv (BitVec.ofInt 8 (a.toInt / 2)) false with c := some (decide (a.toNat % 2 = 1)) })))
      ∧ (∀ i, (f = .R d ∧ i = .swap_R d ∨ f = .IR d ∧ i = .swap_IR d) →
        s.Completes i
          (f.storing s (fun a => BitVec.ofNat 8 (a.toNat % 16 * 16 + a.toNat / 16))
            (fun a =>
              { zsv (BitVec.ofNat 8 (a.toNat % 16 * 16 + a.toNat / 16)) (s.drawBit .overflowFlag) with
                c := some (s.drawBit .carryFlag) })))

/-- DA in its two forms, by the table of R165; outside it the result and C are free (U16), V always (D19). -/
def Obligations.DecimalAdjust : Prop :=
  ∀ (s : State) (d : Byte) (f : OneForm) (i : Instr), (f = .R d ∧ i = .da_R d ∨ f = .IR d ∧ i = .da_IR d) →
    s.Completes i (f.storing s s.decimalByte s.decimalFlags)

/-- INCW and DECW, the pair even (41_arithmetic.md R168, R169): the word, S and V; Z is free (D18). -/
def Obligations.WordIncrementAndDecrement : Prop :=
  ∀ (s : State) (d : Byte),
    (bitOf d 0#3 = false →
        s.Completes (.incw_RR d)
            { reads := s.pairRPlaces d
              writes := s.toPairR d (s.pairR d + 1#16)
              flags := wideFlags (s.drawBit .zeroFlag) (s.pairR d + 1#16) (decide ((s.pairR d).toNat = 0x7FFF))
              pc := s.pc }
          ∧ s.Completes (.decw_RR d)
            { reads := s.pairRPlaces d
              writes := s.toPairR d (s.pairR d - 1#16)
              flags := wideFlags (s.drawBit .zeroFlag) (s.pairR d - 1#16) (decide ((s.pairR d).toNat = 0x8000))
              pc := s.pc })
      ∧ (∀ p, p = s.look (s.srcR d) → bitOf p 0#3 = false →
        s.Completes (.incw_IR d)
            { reads := [s.srcR d, s.srcI p, s.srcI (p + 1#8)]
              writes := [(s.dstInd p, upper (s.pairI p + 1#16)), (s.dstInd (p + 1#8), lower (s.pairI p + 1#16))]
              flags := wideFlags (s.drawBit .zeroFlag) (s.pairI p + 1#16) (decide ((s.pairI p).toNat = 0x7FFF))
              pc := s.pc }
          ∧ s.Completes (.decw_IR d)
            { reads := [s.srcR d, s.srcI p, s.srcI (p + 1#8)]
              writes := [(s.dstInd p, upper (s.pairI p - 1#16)), (s.dstInd (p + 1#8), lower (s.pairI p - 1#16))]
              flags := wideFlags (s.drawBit .zeroFlag) (s.pairI p - 1#16) (decide ((s.pairI p).toNat = 0x8000))
              pc := s.pc })

/-- MULT in its three forms, the pair even (R170): the unsigned product of the even register and the source. The source of MULT RR,IR is
one byte through any pointer, as R170 has it, although 30_encoding.md R82 speaks of a pair at an even pointer: THE MODEL'S READING
(DEDUCED, log 47). -/
def Obligations.Multiplication : Prop :=
  ∀ (s : State) (d : Byte) (f : ByteSource) (p : Nat), bitOf d 0#3 = false → p = (s.look (s.srcR d)).toNat * (f.value s).toNat →
    s.Completes (f.mult d)
      { reads := s.srcR d :: f.reads s
        writes := s.toPairR d (BitVec.ofNat 16 p)
        flags :=
          { c := some (decide (0xFF < p)), z := some (decide (p = 0)), s := some (decide (0x8000 ≤ p)), v := some false }
        pc := s.pc }

/-- DIV in its three forms, the pair even, the quotient in a byte (R171): remainder high, quotient low. The source of DIV RR,IR is one
byte through any pointer, as R171 has it, although 30_encoding.md R82 speaks of a pair at an even pointer: THE MODEL'S READING (DEDUCED,
log 47). -/
def Obligations.DivisionThatFits : Prop :=
  ∀ (s : State) (d : Byte) (f : ByteSource) (n k : Nat), bitOf d 0#3 = false → n = (s.pairR d).toNat → k = (f.value s).toNat →
    0 < k → n / k ≤ 0xFF →
    s.Completes (f.div d)
      { reads := s.pairRPlaces d ++ f.reads s
        writes := [(s.dstReg d, BitVec.ofNat 8 (n % k)), (s.dstReg (d + 1#8), BitVec.ofNat 8 (n / k))]
        flags :=
          { c := some false, z := some (decide (n / k = 0)), s := some (decide (0x80 ≤ n / k)), v := some false }
        pc := s.pc }

/-- DIV by 0, or with a quotient above FFH (R171, U14): the flags, C and S free as the rule says; then the pair with free bytes. The
flags are written first, in the order of the rule's pseudocode: an order only a pair that holds FLAGS shows (log 29). The source of DIV
RR,IR is one byte through any pointer: THE MODEL'S READING (DEDUCED, log 47). -/
def Obligations.DivisionThatOverflows : Prop :=
  ∀ (s : State) (d : Byte) (f : ByteSource) (n k : Nat) (u : FlagUpdate) (ws : List Write),
    s.inv = true → bitOf d 0#3 = false → n = (s.pairR d).toNat → k = (f.value s).toNat →
    (k = 0 ∧ u = { c := some (s.drawBit .carryFlag), z := some true, s := some (s.drawBit .signFlag), v := some true }
      ∨ 0 < k ∧ 0xFF < n / k
        ∧ u = { c := some (decide (n / k ≤ 0x1FF)), z := some false, s := some (s.drawBit .signFlag), v := some true }) →
    ws = [(s.dstReg d, s.drawByte .divHigh), (s.dstReg (d + 1#8), s.drawByte .divLow)] →
    s.ready { reads := s.pairRPlaces d ++ f.reads s, writes := ws, pc := s.pc } = true →
    ∃ s1 t, s.Did s1 { flags := u, pc := s.pc } ∧ exec (f.div d) s = .next t ∧ s1.Did t { writes := ws, pc := s.pc }

/-- V after ADD, ADC, SUB, SBC, CP says that the exact signed result does not fit a byte (10_state.md R22, R173): the flag updates of
the meanings against the integers. -/
def Obligations.OverflowIsSigned : Prop :=
  ∀ (cin : Bool) (a b : Byte),
    (addResult cin a b).flags.v
        = some (decide (a.toInt + b.toInt + cin.toNat < -128 ∨ 127 < a.toInt + b.toInt + cin.toNat))
      ∧ (subResult cin a b).flags.v
        = some (decide (a.toInt - b.toInt - cin.toNat < -128 ∨ 127 < a.toInt - b.toInt - cin.toNat))
      ∧ (compareFlags a b).v = some (decide (a.toInt - b.toInt < -128 ∨ 127 < a.toInt - b.toInt))

/-- What the conditions mean after CP a,b (41_arithmetic.md R164): EQ, NE; ULT, UGE, UGT, ULE unsigned; LT, GE, GT, LE signed; in every
state CP leads to, for all five forms. -/
def Obligations.ConditionsAfterCompare : Prop :=
  ∀ (s t : State) (f : TwoForm) (a b : Byte), a = f.first s → b = f.second s → exec (TwoOp.cp.instr f) s = .next t →
    condHolds t.flags .z = decide (a = b) ∧ condHolds t.flags .nz = decide (a ≠ b)
      ∧ condHolds t.flags .c = decide (a.toNat < b.toNat) ∧ condHolds t.flags .nc = decide (b.toNat ≤ a.toNat)
      ∧ condHolds t.flags .ugt = decide (b.toNat < a.toNat) ∧ condHolds t.flags .ule = decide (a.toNat ≤ b.toNat)
      ∧ condHolds t.flags .lt = decide (a.toInt < b.toInt) ∧ condHolds t.flags .ge = decide (b.toInt ≤ a.toInt)
      ∧ condHolds t.flags .gt = decide (b.toInt < a.toInt) ∧ condHolds t.flags .le = decide (a.toInt ≤ b.toInt)

/-- DECIMAL ARITHMETIC: ADD then DA, and SUB then DA, of two packed two-digit numbers in the prime area give the packed sum or
difference modulo 100, with C the decimal carry or borrow, whatever the flags before and the free values (R160, R162, R165). -/
def Obligations.DecimalArithmetic : Prop :=
  ∀ (s : State) (d : Byte) (m n : Nat), s.inv = true → s.srcPage = s.dstPage → d.toNat < 0xC0 → m < 100 → n < 100 →
    s.stored (.ram s.srcPage d) = packed m →
    (∃ t u, exec (.add_R_IM d (packed n)) s = .next t ∧ exec (.da_R d) t = .next u
        ∧ u.stored (.ram s.srcPage d) = packed ((m + n) % 100) ∧ u.flag .c = decide (100 ≤ m + n))
      ∧ (∃ t u, exec (.sub_R_IM d (packed n)) s = .next t ∧ exec (.da_R d) t = .next u
        ∧ u.stored (.ram s.srcPage d) = packed ((100 + m - n) % 100) ∧ u.flag .c = decide (m < n))

/-! ## Bit manipulation -/

/-- BAND, BOR, BXOR in their two forms, BCP, BITC (44_bit_manipulation.md R230 to R234, R240): one bit replaced, Z from it, S cleared,
V free. -/
def Obligations.BitLogic : Prop :=
  ∀ (s : State) (op : BitOp) (d n : Nibble) (a : Byte) (b : Tri) (x y : Byte), x = s.look (s.srcW d) → y = s.look (s.srcR a) →
    s.Completes (op.toWork d a b)
        { reads := [s.srcW d, s.srcR a]
          writes := [(s.dstWork d, replaced x 0#3 (op.on (bitOf x 0#3) (bitOf y b)))]
          flags := s.oneBitFlags (op.on (bitOf x 0#3) (bitOf y b))
          pc := s.pc }
      ∧ s.Completes (op.toReg a b n)
        { reads := [s.srcR a, s.srcW n]
          writes := [(s.dstReg a, replaced y b (op.on (bitOf y b) (bitOf (s.look (s.srcW n)) 0#3)))]
          flags := s.oneBitFlags (op.on (bitOf y b) (bitOf (s.look (s.srcW n)) 0#3))
          pc := s.pc }
      ∧ s.Completes (.bcp_r0_Rb d a b)
        { reads := [s.srcW d, s.srcR a]
          flags :=
            { z := some (decide (bitOf x 0#3 = bitOf y b)), s := some false, v := some (s.drawBit .overflowFlag) }
          pc := s.pc }
      ∧ s.Completes (.bitc_rb d b)
        { reads := [s.srcW d]
          writes := [(s.dstWork d, replaced x b (!bitOf x b))]
          flags := s.oneBitFlags (!bitOf x b)
          pc := s.pc }

/-- BITR, BITS and LDB in its two forms (R235 to R237): one bit replaced, no flag written. -/
def Obligations.BitLoads : Prop :=
  ∀ (s : State) (d n : Nibble) (a : Byte) (b : Tri) (x y : Byte), x = s.look (s.srcW d) → y = s.look (s.srcR a) →
    s.Completes (.bitr_rb d b) { reads := [s.srcW d], writes := [(s.dstWork d, replaced x b false)], pc := s.pc }
      ∧ s.Completes (.bits_rb d b) { reads := [s.srcW d], writes := [(s.dstWork d, replaced x b true)], pc := s.pc }
      ∧ s.Completes (.ldb_r0_Rb d a b)
        { reads := [s.srcW d, s.srcR a], writes := [(s.dstWork d, replaced x 0#3 (bitOf y b))], pc := s.pc }
      ∧ s.Completes (.ldb_Rb_r0 a b n)
        { reads := [s.srcR a, s.srcW n]
          writes := [(s.dstReg a, replaced y b (bitOf (s.look (s.srcW n)) 0#3))]
          pc := s.pc }

/-! ## Program control -/

/-- BTJRF, BTJRT, JP cc, JR, and JP IRR with an even pair (43_program_control.md R200, R201, R207, R211): only pc changes. -/
def Obligations.Jumps : Prop := ∀ (s : State) (i : Instr) (a : Access), s.jumpAccess i = some a → s.Completes i a

/-- CALL DA, CALL IRR and CALL IA with an even operand, RET (R202, R203, R212). -/
def Obligations.CallsAndReturn : Prop :=
  ∀ (s : State) (da : Word) (d : Byte),
    s.Completes (.call_DA da) { writes := s.pushesPc, pc := da }
      ∧ (bitOf d 0#3 = false →
        s.Completes (.call_IRR d) { reads := s.pairRPlaces d, writes := s.pushesPc, pc := s.pairR d }
          ∧ s.Completes (.call_IA d) { writes := s.pushesPc, pc := s.romWord d.toNat })
      ∧ s.Completes .ret
        { reads := [s.srcI s.spl, s.srcI (s.spl + 1#8)], writes := [(.sys .spl, s.spl + 2#8)], pc := s.pairI s.spl }

/-- A CALL and then a RET come back to the address after the CALL with SP as before, the other registers as before but for the two
bytes below SP (R202, R212; R59). -/
def Obligations.CallThenReturn : Prop :=
  ∀ (s : State) (da : Word), s.inv = true → s.srcPage = s.dstPage →
    ∃ t u, exec (.call_DA da) s = .next t ∧ exec .ret t = .next u ∧ t.pc = da ∧ u.pc = s.pc ∧ u.spl = s.spl ∧ u.flags = s.flags
      ∧ ∀ l, l ≠ s.dstInd (s.spl - 1#8) → l ≠ s.dstInd (s.spl - 2#8) → u.stored l = s.stored l

/-- CPIJE, CPIJNE and DJNZ (R204 to R206): the pointer or counter stepped whatever the comparison, the comparison on the values before.
THE MODEL'S CHOICE where the counter of DJNZ lies in a register that ignores or masks a write or is volatile: the jump tests the byte
computed (log 48). -/
def Obligations.CompareOrCountAndJump : Prop :=
  ∀ (s : State) (d n : Nibble) (ra : Byte),
    s.Completes (.cpije_r_Ir_RA d n ra)
        { reads := [s.srcW n, s.srcWI n, s.srcW d]
          writes := [(s.dstWork n, s.look (s.srcW n) + 1#8)]
          pc := if s.look (s.srcW d) = s.look (s.srcWI n) then s.nearby ra else s.pc }
      ∧ s.Completes (.cpijne_r_Ir_RA d n ra)
        { reads := [s.srcW n, s.srcWI n, s.srcW d]
          writes := [(s.dstWork n, s.look (s.srcW n) + 1#8)]
          pc := if s.look (s.srcW d) = s.look (s.srcWI n) then s.pc else s.nearby ra }
      ∧ s.Completes (.djnz_r_RA n ra)
        { reads := [s.srcW n]
          writes := [(s.dstWork n, s.look (s.srcW n) - 1#8)]
          pc := if (s.look (s.srcW n)).toNat = 1 then s.pc else s.nearby ra }

/-- ENTER, EXIT, NEXT (R208 to R210): the list entry read high byte first from program memory, IP moved past it. -/
def Obligations.ThreadedCode : Prop :=
  ∀ s : State,
    (s.pc.toNat + 1 ≤ s.launch.part.romTop →
        s.Completes .enter
          { writes :=
              s.pushes s.spl [s.ipl, s.iph] ++ [(.sys .iph, upper (s.pc + 2#16)), (.sys .ipl, lower (s.pc + 2#16))]
            pc := s.romWord s.pc.toNat })
      ∧ (∀ w, w = s.pairI s.spl → w.toNat + 1 ≤ s.launch.part.romTop →
        s.Completes .exit
          { reads := [s.srcI s.spl, s.srcI (s.spl + 1#8)]
            writes := [(.sys .spl, s.spl + 2#8), (.sys .iph, upper (w + 2#16)), (.sys .ipl, lower (w + 2#16))]
            pc := s.romWord w.toNat })
      ∧ (∀ w, w = wordFrom s.iph s.ipl → w.toNat + 1 ≤ s.launch.part.romTop →
        s.Completes .next
          { writes := [(.sys .iph, upper (w + 2#16)), (.sys .ipl, lower (w + 2#16))], pc := s.romWord w.toNat })

/-- IRET with FIS = 0 (R213): FLAGS popped whole, then PC; SYM.0 set; every other place, the memories, the latches, the modes and the
counters as before. The mark it leaves for the next boundary is the model's own field (R295, log 16). -/
def Obligations.NormalReturn : Prop :=
  ∀ s : State, s.inv = true → s.flag .fis = false →
    ∃ t, exec .iret s = .next t ∧ t.flags = s.look (s.srcI s.spl)
      ∧ t.pc = wordFrom (s.look (s.srcI (s.spl + 1#8))) (s.look (s.srcI (s.spl + 2#8))) ∧ t.spl = s.spl + 3#8
      ∧ t.sym = s.sym ||| 1#8 ∧ (∀ l, l ∉ [.sys .flags, .sys .spl, .sys .sym] → t.stored l = s.stored l) ∧ s.Returned t

/-- IRET with FIS = 1 (R213): PC and IP exchanged, FLAGS from the shadow with FIS cleared, nothing popped, all else as before. SYM.0 is set
or kept, which the spec leaves open and the model leaves free: THE MODEL'S CHOICE (R299, log 14). The mark it leaves for the next boundary
is the model's own field (R295, log 16). -/
def Obligations.FastReturn : Prop :=
  ∀ s : State, s.flag .fis = true →
    ∃ t, exec .iret s = .next t ∧ t.pc = wordFrom s.iph s.ipl ∧ t.iph = upper s.pc ∧ t.ipl = lower s.pc
      ∧ t.flags = s.flagsShadow &&& 0xFD#8 ∧ (t.sym = s.sym ∨ t.sym = s.sym ||| 1#8)
      ∧ (∀ l, l ∉ [.sys .flags, .sys .iph, .sys .ipl, .sys .sym] → t.stored l = s.stored l) ∧ s.Returned t

/-! ## CPU control -/

/-- CCF, RCF, SCF, SB0, SB1 (46_cpu_control.md R260 to R262, R265, R266): one bit of FLAGS; SRP, SRP0, SRP1 (R267 to R269): the pointers, im
being bits 7..3 of the operand byte and its bit 2 ignored; NOP (R271): nothing. -/
def Obligations.FlagBankAndPointerInstructions : Prop :=
  ∀ (s : State) (im : BitVec 5) (x : BitVec 1),
    exec .ccf s = .next { s with flags := s.flags ^^^ 0x80#8 } ∧ exec .rcf s = .next { s with flags := s.flags &&& 0x7F#8 }
      ∧ exec .scf s = .next { s with flags := s.flags ||| 0x80#8 } ∧ exec .sb0 s = .next { s with flags := s.flags &&& 0xFE#8 }
      ∧ exec .sb1 s = .next { s with flags := s.flags ||| 0x01#8 } ∧ exec .nop s = .next s
      ∧ exec (.srp_IM im x) s
        = .next { s with rp0 := BitVec.ofNat 8 (im.toNat / 2 * 16), rp1 := BitVec.ofNat 8 (im.toNat / 2 * 16 + 8) }
      ∧ exec (.srp0_IM im x) s = .next { s with rp0 := BitVec.ofNat 8 (im.toNat * 8) }
      ∧ exec (.srp1_IM im x) s = .next { s with rp1 := BitVec.ofNat 8 (im.toNat * 8) }

/-- DI and EI (R263, R264): SYM.0, the other bits of SYM kept. That EI marks the next boundary is the model's own field
(60_exceptions.md R295, log 16). -/
def Obligations.InterruptEnableInstructions : Prop :=
  ∀ s : State, exec .di s = .next { s with sym := s.sym &&& 0xFE#8 }
    ∧ exec .ei s = .next { s with sym := s.sym ||| 0x01#8, latency := true }

/-- IDLE, STOP, WFI (R270, R272, 43_program_control.md R214): the mode they enter. STOP where a launch makes it keyed acts as a NOP
without its key (R273). THE MODEL'S CHOICES: they execute whatever SYM.0 (log 15), the wait of WFI is a bit of its own (log 34), and the key
is compared with the byte last written to its register, not with what a read of it would answer (log 39). -/
def Obligations.WaitInstructions : Prop :=
  ∀ s : State, exec .idle s = .next { s with power := .idle } ∧ exec .wfi s = .next { s with waiting := true }
    ∧ (s.launch.stopKey = none → exec .stop s = .next { s with power := .stop })
    ∧ (∀ l key, s.launch.stopKey = some (l, key) →
      exec .stop s = .next { s with power := if s.stored l = key then .stop else s.power })

/-! ## Interrupts, waits, reset -/

/-- NORMAL INTERRUPT ENTRY, as a step, from a running machine, a WFI, Idle or Stop mode, which it ends (60_exceptions.md R293;
46_cpu_control.md R270, R272): SYM.0 cleared; PC low, PC high, FLAGS pushed; the latch cleared where the source is one that hardware clears;
PC from the vector, high byte first; FLAGS and every other place kept. An odd vector stops by name (20_memory.md R60; U5; log 26). The
boundary at which a request may be taken or not (R295) is in `StepRunsDecodedInstruction`. -/
def Obligations.NormalEntry : Prop :=
  ∀ (s : State) (n : Nat) (src : Source), s.settled → s.served = some (n, src) → ¬(s.fie = true ∧ src.level = s.fil) →
    (bitOf src.vector 0#3 = true → step s = .refused .oddVector)
      ∧ (bitOf src.vector 0#3 = false →
        ∃ t, step s = .next t ∧ s.Entered t ∧ t.pc = s.romWord src.vector.toNat ∧ t.spl = s.spl - 3#8
          ∧ t.stored (s.dstInd (s.spl - 3#8)) = s.flags ∧ t.stored (s.dstInd (s.spl - 2#8)) = upper s.pc
          ∧ t.stored (s.dstInd (s.spl - 1#8)) = lower s.pc ∧ t.flags = s.flags ∧ t.sym = s.sym &&& 0xFE#8
          ∧ (∀ l, l ∉ [.sys .sym, .sys .spl, s.dstInd (s.spl - 1#8), s.dstInd (s.spl - 2#8), s.dstInd (s.spl - 3#8)] →
            t.stored l = s.stored l)
          ∧ (∀ m, t.pending.getLsbD m = (s.pending.getLsbD m && !(decide (m = n) && src.hardwareClear)))
          ∧ t.flagsShadow = s.flagsShadow)

/-- FAST INTERRUPT ENTRY, as a step, from a running machine, a WFI, Idle or Stop mode, which it ends (R298; R270, R272): PC and IP
exchanged, FLAGS kept in the shadow, FIS set, nothing pushed. Whether SYM.0 and the latch are cleared is open in the spec and free in the
model: THE MODEL'S CHOICE (U23, log 14). -/
def Obligations.FastEntry : Prop :=
  ∀ (s : State) (n : Nat) (src : Source), s.settled → s.served = some (n, src) → s.fie = true → src.level = s.fil →
    ∃ t, step s = .next t ∧ s.Entered t ∧ t.pc = wordFrom s.iph s.ipl ∧ t.iph = upper s.pc ∧ t.ipl = lower s.pc
      ∧ t.flagsShadow = s.flags ∧ t.flags = s.flags ||| 0x02#8 ∧ (t.sym = s.sym ∨ t.sym = s.sym &&& 0xFE#8)
      ∧ (∀ l, l ∉ [.sys .flags, .sys .iph, .sys .ipl, .sys .sym] → t.stored l = s.stored l)
      ∧ (∀ m, m ≠ n → t.pending.getLsbD m = s.pending.getLsbD m)

/-- WHICH REQUEST IS SERVED (R289, R290): one that is eligible (latch set, enabled at its source, unmasked, SYM.0 set), and no other
eligible request is of a level that ranks above its own, nor stands before it in the fixed order among sources of its level; and if none
is served, none is eligible. THE MODEL'S CHOICES: enabled at its source is the enable bit as last written (log 46); no second fast
interrupt is eligible while FIS = 1 (log 14); the fixed order is that of the source list (log 40). -/
def Obligations.HighestRequestServed : Prop :=
  ∀ s : State,
    (∀ n src, s.served = some (n, src) →
        s.launch.vectorMap[n]? = some src ∧ s.ie = true ∧ s.pending.getLsbD n = true
          ∧ bitOf (s.stored src.enable.reg) src.enable.bit = true ∧ bitOf s.imr src.level = true
          ∧ ∀ m other, s.launch.vectorMap[m]? = some other → s.eligible m other = true →
            s.outranks other.level src.level = false ∧ (other.level = src.level → n ≤ m))
      ∧ (s.served = none → ∀ m other, s.launch.vectorMap[m]? = some other → s.eligible m other = false)

/-- The priority register (10_state.md R31; 60 R290): each bit of IPR, between the levels and the groups it orders, in both directions, for
each of the six values of bits 7, 4, 1 that the table defines. -/
def Obligations.PriorityOrder : Prop :=
  ∀ s : State,
    s.outranks 0#3 1#3 = !bitOf s.ipr 0#3 ∧ s.outranks 1#3 0#3 = bitOf s.ipr 0#3
      ∧ (∀ x ∈ [3#3, 4#3], s.outranks 2#3 x = !bitOf s.ipr 2#3 ∧ s.outranks x 2#3 = bitOf s.ipr 2#3)
      ∧ s.outranks 3#3 4#3 = !bitOf s.ipr 3#3 ∧ s.outranks 4#3 3#3 = bitOf s.ipr 3#3
      ∧ (∀ x ∈ [6#3, 7#3], s.outranks 5#3 x = !bitOf s.ipr 5#3 ∧ s.outranks x 5#3 = bitOf s.ipr 5#3)
      ∧ s.outranks 6#3 7#3 = !bitOf s.ipr 6#3 ∧ s.outranks 7#3 6#3 = bitOf s.ipr 6#3
      ∧ ∀ g, g = [bitOf s.ipr 7#3, bitOf s.ipr 4#3, bitOf s.ipr 1#3] → g ≠ [false, false, false] → g ≠ [true, true, true] →
        ∀ x y z, x ∈ [0#3, 1#3] → y ∈ [2#3, 3#3, 4#3] → z ∈ [5#3, 6#3, 7#3] →
          s.outranks x y = decide (g = [false, true, false] ∨ g = [true, false, false] ∨ g = [true, true, false])
            ∧ s.outranks y x = decide (g = [false, false, true] ∨ g = [false, true, true] ∨ g = [true, false, true])
            ∧ s.outranks y z = decide (g = [false, false, true] ∨ g = [false, true, false] ∨ g = [false, true, true])
            ∧ s.outranks z y = decide (g = [true, false, false] ∨ g = [true, false, true] ∨ g = [true, true, false])
            ∧ s.outranks x z = decide (g = [false, true, false] ∨ g = [false, true, true] ∨ g = [true, true, false])
            ∧ s.outranks z x = decide (g = [false, false, true] ∨ g = [true, false, false] ∨ g = [true, false, true])

/-- AN INTERRUPT AND ITS RETURN: after a step that takes a normal interrupt, IRET gives back pc, FLAGS and SP, sets SYM.0, and leaves every
place but the three bytes below SP as before the interrupt (R293, R213; 10_state.md R24). -/
def Obligations.InterruptThenReturn : Prop :=
  ∀ (s : State) (n : Nat) (src : Source), s.settled → s.served = some (n, src) → ¬(s.fie = true ∧ src.level = s.fil) →
    bitOf src.vector 0#3 = false → s.flag .fis = false → s.srcPage = s.dstPage →
    ∃ t u, step s = .next t ∧ exec .iret t = .next u ∧ u.pc = s.pc ∧ u.flags = s.flags ∧ u.spl = s.spl ∧ u.sym = s.sym
      ∧ ∀ l, l ∉ [s.dstInd (s.spl - 1#8), s.dstInd (s.spl - 2#8), s.dstInd (s.spl - 3#8)] → u.stored l = s.stored l

/-- NO INSTRUCTION EXECUTES OUTSIDE RUN MODE (10_state.md R36; 46_cpu_control.md R270, R272, R275; 60 R314): in Back-up mode, and in Idle
or Stop mode while no waking request stands, and in a WFI wait while none is served, a step with no input changes nothing but the count
of steps. In Stop mode only an external source wakes. Enabled is the enable bit as last written: THE MODEL'S CHOICE (log 46); that nothing
runs in Back-up mode is log 33. -/
def Obligations.WaitsHold : Prop :=
  ∀ s : State, s.env = [] →
    (s.power = .backup → step s = .next { s with tick := s.tick + 1 })
      ∧ (s.power = .idle →
        (∀ n src, s.launch.vectorMap[n]? = some src → s.pending.getLsbD n = true →
          bitOf (s.stored src.enable.reg) src.enable.bit = true → bitOf s.imr src.level = false) →
        step s = .next { s with tick := s.tick + 1 })
      ∧ (s.power = .stop →
        (∀ n src, s.launch.vectorMap[n]? = some src → s.pending.getLsbD n = true → src.external = true →
          bitOf (s.stored src.enable.reg) src.enable.bit = true → bitOf s.imr src.level = false) →
        step s = .next { s with tick := s.tick + 1 })
      ∧ (s.power = .run → s.waiting = true → s.served = none → step s = .next { s with tick := s.tick + 1 })

/-- EVERY INPUT OF THE ENVIRONMENT (10_state.md R33, R40; 46_cpu_control.md R272; 60_exceptions.md R291, R306, R314; 70_reset_and_hazards.md
R320, R326). WATCHDOG: n counts of the basic timer reset a running or idle chip exactly where the watchdog is enabled and the 8-bit counter
overflows, and else only count; in Stop and Back-up mode it does not count. RESET PIN AND LOW SUPPLY: the pin low enters Back-up mode, and so
does a low supply, but on the G parts not in Stop mode; the release resets a chip in Back-up mode, and no other. SOURCES: the event of
source n sets its latch and nothing else, whether or not the source, its level or the core is enabled; in Stop mode that of an external
source only, in Back-up mode none. One input that stands alone at a boundary is all that happens there. What a reset leaves is
`State.ResetFrom`. THE MODEL'S CHOICES: the basic timer is an input of n counts (log 32); what stands still in Stop mode (log 44) and in
Back-up mode, and one input for either release (log 33); that the memories and general registers keep their contents, which the rules
offer (log 31). -/
def Obligations.WatchdogReset : Prop :=
  ∀ (s : State) (n : Nat),
    (s.power = .run ∨ s.power = .idle →
        (s.btcon.toNat / 16 ≠ 0xA → 0x100 ≤ s.btcnt.toNat + n → s.ResetFrom (s.happen (.basicTimer n)))
          ∧ (s.btcon.toNat / 16 = 0xA ∨ s.btcnt.toNat + n < 0x100 →
            s.happen (.basicTimer n) = { s with btcnt := BitVec.ofNat 8 (s.btcnt.toNat + n) }))
      ∧ (s.power = .stop ∨ s.power = .backup → s.happen (.basicTimer n) = s)
      ∧ s.happen .resetPinLow = { s with power := .backup }
      ∧ (s.power = .stop ∧ (s.launch.part = .g9 ∨ s.launch.part = .g7) → s.happen .supplyLow = s)
      ∧ (¬(s.power = .stop ∧ (s.launch.part = .g9 ∨ s.launch.part = .g7)) → s.happen .supplyLow = { s with power := .backup })
      ∧ (s.power = .backup → s.ResetFrom (s.happen .resetRelease)) ∧ (s.power ≠ .backup → s.happen .resetRelease = s)
      ∧ (s.power = .run ∨ s.power = .idle ∨ s.power = .stop ∧ (∃ src, s.launch.vectorMap[n]? = some src ∧ src.external = true) →
        s.happen (.raise n) = { s with pending := s.pending ||| BitVec.twoPow 22 n })
      ∧ (s.power = .backup ∨ s.power = .stop ∧ ¬(∃ src, s.launch.vectorMap[n]? = some src ∧ src.external = true) →
        s.happen (.raise n) = s)
      ∧ ∀ e rest, s.env = [e] :: rest → s.environment = { s with env := rest }.happen e

/-! ## Where the model stops -/

/-- ODD PAIRS STOP (10_state.md R16; 20_memory.md R60; U4, U5): every instruction with a register pair at an odd address, or a pointer to an odd
pair, refuses, and so does CALL IA with an odd operand. -/
def Obligations.OddPairsStop : Prop :=
  ∀ (s : State) (d n a : Byte) (w : Word) (f : ByteSource), bitOf d 0#3 = true → bitOf n 0#3 = false →
    (∀ i ∈ [Instr.incw_RR d, .decw_RR d, .jp_IRR d, .call_IRR d, .ldw_RR_IML d w, .ldw_RR_RR n d], exec i s = .refused .oddPair)
      ∧ exec (.call_IA d) s = .refused .oddTableAddress
      ∧ ((∀ l ∈ f.reads s, s.readable l = true) → exec (f.mult d) s = .refused .oddPair ∧ exec (f.div d) s = .refused .oddPair)
      ∧ (s.readable (s.srcR a) = true → s.look (s.srcR a) = d →
        ∀ i ∈ [Instr.incw_IR a, .decw_IR a, .ldw_RR_IR n a, .ldw_RR_IR d a], exec i s = .refused .oddPair)
      ∧ ((∀ l ∈ s.pairRPlaces n, s.readable l = true) → exec (.ldw_RR_RR d n) s = .refused .oddPair)
      ∧ (s.readable (s.srcR a) = true → s.look (s.srcR a) = n → s.readable (s.srcI n) = true →
        exec (.ldw_RR_IR d a) s = .refused .oddPair)

/-- GUARDED WRITES AND ADDRESSES STOP: IMR written while SYM.0 = 1 (70_reset_and_hazards.md R333; U18); PP naming an absent page (10_state.md
R32; U10), whereby no state with the invariant has one, and a register of one is refused in a state that does; an unimplemented peripheral
register of either bank or of D0H to D2H, written or read (R35; U7); a load from program memory above ROM_TOP (20_memory.md R54; U6).
A STEP STOPS where its fetch begins or runs on above ROM_TOP (R54), and where it reads an encoding without an instruction, an odd pair or an
odd table address (30_encoding.md R88, R16, R60). The names of the stops are the model's (log 22, log 26, log 27, log 28). -/
def Obligations.GuardedAccessesStop : Prop :=
  ∀ (s : State) (v : Byte) (n : Nibble) (p : Tri) (a : Byte),
    (s.ie = true → exec (.ld_R_IM 0xDD#8 v) s = .refused .maskWriteWhileEnabled)
      ∧ (s.launch.nPages ≤ v.toNat % 16 ∨ s.launch.nPages ≤ v.toNat / 16 → exec (.ld_R_IM 0xDF#8 v) s = .refused .pageSelect)
      ∧ (s.inv = true → s.srcPage.toNat < s.launch.nPages ∧ s.dstPage.toNat < s.launch.nPages)
      ∧ (a.toNat < 0xC0 → s.launch.nPages ≤ s.dstPage.toNat → exec (.ld_R_IM a v) s = .refused .pageAbsent)
      ∧ (a.toNat < 0xC0 → s.launch.nPages ≤ s.srcPage.toNat → exec (.ld_r_R n a) s = .refused .pageAbsent)
      ∧ (∀ l ∈ s.launch.absent,
        a = 0xD0#8 ∧ l = .sys .t0cnt ∨ a = 0xD1#8 ∧ l = .sys .t0data ∨ a = 0xD2#8 ∧ l = .sys .t0con
          ∨ 0xE0 ≤ a.toNat ∧ ¬(a = 0xFF#8 ∧ s.flag .ba = false) ∧ l = .bank (s.flag .ba) (BitVec.ofNat 5 (a.toNat - 0xE0)) →
        exec (.ld_R_IM a v) s = .refused .unimplementedRegister ∧ exec (.ld_r_R n a) s = .refused .unimplementedRegister)
      ∧ ((∀ l ∈ s.pairWPlaces p, s.readable l = true) → s.launch.part.romTop < (s.pairW p).toNat →
        exec (.ldc_r_Irr n p) s = .fault .progAddressOutOfRange)
      ∧ (s.fetchesNext →
        (s.launch.part.romTop < s.pc.toNat → step s = .fault .progAddressOutOfRange)
          ∧ (∀ i, (encode i)[0]? = some (s.codeAt 0) → s.launch.part.romTop + 1 < s.pc.toNat + (encode i).length →
            step s = .fault .progAddressOutOfRange)
          ∧ (s.pc.toNat ≤ s.launch.part.romTop → s.codeAt 0 = 0xD5#8 → step s = .fault .illegalOpcode)
          ∧ (s.pc.toNat + 1 ≤ s.launch.part.romTop →
            (s.codeAt 0 = 0x31#8 ∧ s.codeAt 1 &&& 3#8 = 3#8 ∨ s.codeAt 0 = 0x57#8 ∧ bitOf (s.codeAt 1) 0#3 = true →
                step s = .fault .illegalOpcode)
              ∧ (s.codeAt 0 = 0xD4#8 ∧ bitOf (s.codeAt 1) 0#3 = true → step s = .refused .oddTableAddress)
              ∧ (s.codeAt 0 ∈ [0xA0#8, 0x80#8, 0x30#8, 0xF4#8] ∧ bitOf (s.codeAt 1) 0#3 = true → step s = .refused .oddPair))
          ∧ (s.pc.toNat + 2 ≤ s.launch.part.romTop →
            (s.codeAt 0 = 0x17#8 ∧ bitOf (s.codeAt 1) 0#3 = true → step s = .fault .illegalOpcode)
              ∧ (s.codeAt 0 ∈ [0x84#8, 0x85#8, 0x86#8, 0x94#8, 0x95#8, 0x96#8, 0xC4#8, 0xC5#8] ∧ bitOf (s.codeAt 2) 0#3 = true
                  ∨ s.codeAt 0 = 0xC4#8 ∧ bitOf (s.codeAt 1) 0#3 = true → step s = .refused .oddPair))
          ∧ (s.pc.toNat + 3 ≤ s.launch.part.romTop → s.codeAt 0 = 0xC6#8 → bitOf (s.codeAt 1) 0#3 = true → step s = .refused .oddPair))
end

