-- ==== Sys2Proof/Laws/Memory.lean ====
section
/-! SUPPORT. The laws of `Memory`: a read after a write, the canonical form kept by every operation, equal reads of equal memories. -/

namespace Sys2Proof.Machine

@[simp] theorem Memory.read_nil (sp : Space) (a : Nat) : Memory.read sp [] a = sp.fill := rfl

@[simp] theorem Memory.wf_nil (sp : Space) : Memory.wf sp [] = true := rfl

theorem Memory.wf_cons {sp : Space} {k : Nat} {w : Byte} {m : Memory} :
    Memory.wf sp ((k, w) :: m) = true ↔ w ≠ sp.fill ∧ (∀ c ∈ m, k < c.1) ∧ Memory.wf sp m = true := by
  simp [Memory.wf, and_assoc]

/-- An address below every listed one is unlisted. -/
theorem Memory.read_below {sp : Space} {m : Memory} {a : Nat} (h : ∀ c ∈ m, a < c.1) : Memory.read sp m a = sp.fill := by
  induction m with
  | nil => rfl
  | cons c m ih =>
    obtain ⟨k, w⟩ := c
    have hk : a < k := h (k, w) (by simp)
    have : a ≠ k := by omega
    simp only [Memory.read, this, if_false]
    exact ih fun c hc => h c (by simp [hc])

/-- A read after a write to the same address gives the value written. -/
theorem Memory.read_write_same {sp : Space} {m : Memory} (h : Memory.wf sp m = true) (a : Nat) (v : Byte) :
    Memory.read sp (Memory.write sp m a v) a = v := by
  induction m with
  | nil => by_cases hv : v = sp.fill <;> simp [Memory.write, Memory.read, hv]
  | cons c m ih =>
    obtain ⟨k, w⟩ := c
    obtain ⟨-, hlt, hm⟩ := Memory.wf_cons.1 h
    simp only [Memory.write]
    by_cases h1 : a < k
    · by_cases hv : v = sp.fill
      · have hne : a ≠ k := by omega
        simp only [h1, hv, if_true, Memory.read, hne, if_false]
        exact Memory.read_below fun c hc => lt_trans h1 (hlt c hc)
      · simp [h1, hv, Memory.read]
    · by_cases h2 : a = k
      · by_cases hv : v = sp.fill
        · subst h2
          simp only [lt_irrefl, if_false, hv, if_true]
          exact Memory.read_below hlt
        · simp [h2, hv, Memory.read]
      · simp only [h1, h2, if_false, Memory.read]
        exact ih hm

/-- A write leaves every other address alone. -/
theorem Memory.read_write_other {sp : Space} (m : Memory) {a b : Nat} (v : Byte) (h : b ≠ a) :
    Memory.read sp (Memory.write sp m a v) b = Memory.read sp m b := by
  induction m with
  | nil => by_cases hv : v = sp.fill <;> simp [Memory.write, Memory.read, hv, h]
  | cons c m ih =>
    obtain ⟨k, w⟩ := c
    simp only [Memory.write]
    by_cases h1 : a < k
    · by_cases hv : v = sp.fill <;> simp [h1, hv, Memory.read, h]
    · by_cases h2 : a = k
      · subst h2
        by_cases hv : v = sp.fill <;> simp [hv, Memory.read, h]
      · simp only [h1, h2, if_false, Memory.read, ih]

/-- Every address of a written memory was listed before or is the one written. -/
theorem Memory.mem_write {sp : Space} {m : Memory} {a : Nat} {v : Byte} {c : Host.Cell} (h : c ∈ Memory.write sp m a v) :
    c ∈ m ∨ c.1 = a := by
  induction m with
  | nil =>
    by_cases hv : v = sp.fill <;> simp [Memory.write, hv] at h
    exact .inr (by rw [h])
  | cons d m ih =>
    obtain ⟨k, w⟩ := d
    simp only [Memory.write] at h
    split_ifs at h with h1 h2 h3 h4
    · exact .inl h
    · rcases List.mem_cons.1 h with rfl | h
      · exact .inr rfl
      · exact .inl h
    · exact .inl (List.mem_cons_of_mem _ h)
    · rcases List.mem_cons.1 h with rfl | h
      · exact .inr rfl
      · exact .inl (List.mem_cons_of_mem _ h)
    · rcases List.mem_cons.1 h with rfl | h
      · exact .inl (by simp)
      · exact (ih h).imp (List.mem_cons_of_mem _) id

/-- A write keeps the canonical form. -/
theorem Memory.wf_write {sp : Space} {m : Memory} (h : Memory.wf sp m = true) (a : Nat) (v : Byte) :
    Memory.wf sp (Memory.write sp m a v) = true := by
  induction m with
  | nil => by_cases hv : v = sp.fill <;> simp [Memory.write, Memory.wf, hv]
  | cons c m ih =>
    obtain ⟨k, w⟩ := c
    obtain ⟨hw, hlt, hm⟩ := Memory.wf_cons.1 h
    simp only [Memory.write]
    split_ifs with h1 h2 h3 h4
    · exact h
    · refine Memory.wf_cons.2 ⟨h2, ?_, h⟩
      intro c hc
      rcases List.mem_cons.1 hc with rfl | hc
      · exact h1
      · exact lt_trans h1 (hlt c hc)
    · exact hm
    · subst h3
      exact Memory.wf_cons.2 ⟨h4, hlt, hm⟩
    · refine Memory.wf_cons.2 ⟨hw, ?_, ih hm⟩
      intro c hc
      rcases Memory.mem_write hc with hc | hc
      · exact hlt c hc
      · omega

/-- Dropping entries keeps the canonical form. -/
theorem Memory.wf_filter {sp : Space} {m : Memory} (h : Memory.wf sp m = true) (p : Host.Cell → Bool) :
    Memory.wf sp (m.filter p) = true := by
  induction m with
  | nil => rfl
  | cons c m ih =>
    obtain ⟨k, w⟩ := c
    obtain ⟨hw, hlt, hm⟩ := Memory.wf_cons.1 h
    by_cases hp : p (k, w) = true
    · rw [List.filter_cons_of_pos hp]
      exact Memory.wf_cons.2 ⟨hw, fun c hc => hlt c (List.mem_filter.1 hc).1, ih hm⟩
    · rw [List.filter_cons_of_neg hp]
      exact ih hm

/-- The memories of the state after reset are in canonical form. -/
theorem Memory.wf_reset :
    Memory.wf .registers State.reset.regs = true ∧ Memory.wf .program State.reset.rom = true
      ∧ Memory.wf .external State.reset.data = true := ⟨rfl, rfl, rfl⟩

/-- Canonical memories that read alike are equal. -/
theorem Memory.ext_wf {sp : Space} {m n : Memory} (hm : Memory.wf sp m = true) (hn : Memory.wf sp n = true)
    (h : ∀ a, Memory.read sp m a = Memory.read sp n a) : m = n := by
  induction m generalizing n with
  | nil =>
    cases n with
    | nil => rfl
    | cons c n =>
      obtain ⟨k, w⟩ := c
      have := h k
      simp [Memory.read] at this
      exact absurd this.symm (Memory.wf_cons.1 hn).1
  | cons c m ih =>
    obtain ⟨k, w⟩ := c
    obtain ⟨hw, hlt, hm'⟩ := Memory.wf_cons.1 hm
    cases n with
    | nil =>
      have := h k
      simp [Memory.read] at this
      exact absurd this hw
    | cons d n =>
      obtain ⟨j, u⟩ := d
      obtain ⟨hu, hlt', hn'⟩ := Memory.wf_cons.1 hn
      have hkj : k = j := by
        by_contra hne
        rcases Nat.lt_or_gt_of_ne hne with hl | hl
        · have := h k
          rw [Memory.read_below (m := (j, u) :: n)] at this
          · simp [Memory.read] at this; exact hw this
          · intro c hc
            rcases List.mem_cons.1 hc with rfl | hc
            · exact hl
            · exact lt_trans hl (hlt' c hc)
        · have := h j
          rw [Memory.read_below (m := (k, w) :: m)] at this
          · simp [Memory.read] at this; exact hu this.symm
          · intro c hc
            rcases List.mem_cons.1 hc with rfl | hc
            · exact hl
            · exact lt_trans hl (hlt c hc)
      subst hkj
      have hwu : w = u := by simpa [Memory.read] using h k
      subst hwu
      congr 1
      refine ih hm' hn' fun a => ?_
      by_cases ha : a = k
      · subst ha
        rw [Memory.read_below hlt, Memory.read_below hlt']
      · simpa [Memory.read, ha] using h a

end Sys2Proof.Machine
end

