-- ==== Sys2Proof/Laws/State.lean ====
section
/-! SUPPORT. What each update of the state leaves in each field: one lemma per field per update, so that no proof unfolds a record update. -/

namespace Sys2Proof.Machine

/-! ## `State.setPc` -/

@[simp] theorem State.setPc_launch (s : State) (v : Word) : (s.setPc v).launch = s.launch := rfl
@[simp] theorem State.setPc_pc (s : State) (v : Word) : (s.setPc v).pc = v := rfl
@[simp] theorem State.setPc_flags (s : State) (v : Word) : (s.setPc v).flags = s.flags := rfl
@[simp] theorem State.setPc_flagsShadow (s : State) (v : Word) : (s.setPc v).flagsShadow = s.flagsShadow := rfl
@[simp] theorem State.setPc_rp0 (s : State) (v : Word) : (s.setPc v).rp0 = s.rp0 := rfl
@[simp] theorem State.setPc_rp1 (s : State) (v : Word) : (s.setPc v).rp1 = s.rp1 := rfl
@[simp] theorem State.setPc_sph (s : State) (v : Word) : (s.setPc v).sph = s.sph := rfl
@[simp] theorem State.setPc_spl (s : State) (v : Word) : (s.setPc v).spl = s.spl := rfl
@[simp] theorem State.setPc_iph (s : State) (v : Word) : (s.setPc v).iph = s.iph := rfl
@[simp] theorem State.setPc_ipl (s : State) (v : Word) : (s.setPc v).ipl = s.ipl := rfl
@[simp] theorem State.setPc_imr (s : State) (v : Word) : (s.setPc v).imr = s.imr := rfl
@[simp] theorem State.setPc_sym (s : State) (v : Word) : (s.setPc v).sym = s.sym := rfl
@[simp] theorem State.setPc_pp (s : State) (v : Word) : (s.setPc v).pp = s.pp := rfl
@[simp] theorem State.setPc_ipr (s : State) (v : Word) : (s.setPc v).ipr = s.ipr := rfl
@[simp] theorem State.setPc_iprEpoch (s : State) (v : Word) : (s.setPc v).iprEpoch = s.iprEpoch := rfl
@[simp] theorem State.setPc_t0cnt (s : State) (v : Word) : (s.setPc v).t0cnt = s.t0cnt := rfl
@[simp] theorem State.setPc_t0data (s : State) (v : Word) : (s.setPc v).t0data = s.t0data := rfl
@[simp] theorem State.setPc_t0con (s : State) (v : Word) : (s.setPc v).t0con = s.t0con := rfl
@[simp] theorem State.setPc_btcon (s : State) (v : Word) : (s.setPc v).btcon = s.btcon := rfl
@[simp] theorem State.setPc_clkcon (s : State) (v : Word) : (s.setPc v).clkcon = s.clkcon := rfl
@[simp] theorem State.setPc_btcnt (s : State) (v : Word) : (s.setPc v).btcnt = s.btcnt := rfl
@[simp] theorem State.setPc_regs (s : State) (v : Word) : (s.setPc v).regs = s.regs := rfl
@[simp] theorem State.setPc_rom (s : State) (v : Word) : (s.setPc v).rom = s.rom := rfl
@[simp] theorem State.setPc_data (s : State) (v : Word) : (s.setPc v).data = s.data := rfl
@[simp] theorem State.setPc_pending (s : State) (v : Word) : (s.setPc v).pending = s.pending := rfl
@[simp] theorem State.setPc_power (s : State) (v : Word) : (s.setPc v).power = s.power := rfl
@[simp] theorem State.setPc_waiting (s : State) (v : Word) : (s.setPc v).waiting = s.waiting := rfl
@[simp] theorem State.setPc_latency (s : State) (v : Word) : (s.setPc v).latency = s.latency := rfl
@[simp] theorem State.setPc_events (s : State) (v : Word) : (s.setPc v).events = s.events := rfl
@[simp] theorem State.setPc_env (s : State) (v : Word) : (s.setPc v).env = s.env := rfl
@[simp] theorem State.setPc_tick (s : State) (v : Word) : (s.setPc v).tick = s.tick := rfl

/-! ## `State.setFlags` -/

@[simp] theorem State.setFlags_launch (s : State) (v : Byte) : (s.setFlags v).launch = s.launch := rfl
@[simp] theorem State.setFlags_pc (s : State) (v : Byte) : (s.setFlags v).pc = s.pc := rfl
@[simp] theorem State.setFlags_flags (s : State) (v : Byte) : (s.setFlags v).flags = v := rfl
@[simp] theorem State.setFlags_flagsShadow (s : State) (v : Byte) : (s.setFlags v).flagsShadow = s.flagsShadow := rfl
@[simp] theorem State.setFlags_rp0 (s : State) (v : Byte) : (s.setFlags v).rp0 = s.rp0 := rfl
@[simp] theorem State.setFlags_rp1 (s : State) (v : Byte) : (s.setFlags v).rp1 = s.rp1 := rfl
@[simp] theorem State.setFlags_sph (s : State) (v : Byte) : (s.setFlags v).sph = s.sph := rfl
@[simp] theorem State.setFlags_spl (s : State) (v : Byte) : (s.setFlags v).spl = s.spl := rfl
@[simp] theorem State.setFlags_iph (s : State) (v : Byte) : (s.setFlags v).iph = s.iph := rfl
@[simp] theorem State.setFlags_ipl (s : State) (v : Byte) : (s.setFlags v).ipl = s.ipl := rfl
@[simp] theorem State.setFlags_imr (s : State) (v : Byte) : (s.setFlags v).imr = s.imr := rfl
@[simp] theorem State.setFlags_sym (s : State) (v : Byte) : (s.setFlags v).sym = s.sym := rfl
@[simp] theorem State.setFlags_pp (s : State) (v : Byte) : (s.setFlags v).pp = s.pp := rfl
@[simp] theorem State.setFlags_ipr (s : State) (v : Byte) : (s.setFlags v).ipr = s.ipr := rfl
@[simp] theorem State.setFlags_iprEpoch (s : State) (v : Byte) : (s.setFlags v).iprEpoch = s.iprEpoch := rfl
@[simp] theorem State.setFlags_t0cnt (s : State) (v : Byte) : (s.setFlags v).t0cnt = s.t0cnt := rfl
@[simp] theorem State.setFlags_t0data (s : State) (v : Byte) : (s.setFlags v).t0data = s.t0data := rfl
@[simp] theorem State.setFlags_t0con (s : State) (v : Byte) : (s.setFlags v).t0con = s.t0con := rfl
@[simp] theorem State.setFlags_btcon (s : State) (v : Byte) : (s.setFlags v).btcon = s.btcon := rfl
@[simp] theorem State.setFlags_clkcon (s : State) (v : Byte) : (s.setFlags v).clkcon = s.clkcon := rfl
@[simp] theorem State.setFlags_btcnt (s : State) (v : Byte) : (s.setFlags v).btcnt = s.btcnt := rfl
@[simp] theorem State.setFlags_regs (s : State) (v : Byte) : (s.setFlags v).regs = s.regs := rfl
@[simp] theorem State.setFlags_rom (s : State) (v : Byte) : (s.setFlags v).rom = s.rom := rfl
@[simp] theorem State.setFlags_data (s : State) (v : Byte) : (s.setFlags v).data = s.data := rfl
@[simp] theorem State.setFlags_pending (s : State) (v : Byte) : (s.setFlags v).pending = s.pending := rfl
@[simp] theorem State.setFlags_power (s : State) (v : Byte) : (s.setFlags v).power = s.power := rfl
@[simp] theorem State.setFlags_waiting (s : State) (v : Byte) : (s.setFlags v).waiting = s.waiting := rfl
@[simp] theorem State.setFlags_latency (s : State) (v : Byte) : (s.setFlags v).latency = s.latency := rfl
@[simp] theorem State.setFlags_events (s : State) (v : Byte) : (s.setFlags v).events = s.events := rfl
@[simp] theorem State.setFlags_env (s : State) (v : Byte) : (s.setFlags v).env = s.env := rfl
@[simp] theorem State.setFlags_tick (s : State) (v : Byte) : (s.setFlags v).tick = s.tick := rfl

/-! ## `State.setFlagsShadow` -/

@[simp] theorem State.setFlagsShadow_launch (s : State) (v : Byte) : (s.setFlagsShadow v).launch = s.launch := rfl
@[simp] theorem State.setFlagsShadow_pc (s : State) (v : Byte) : (s.setFlagsShadow v).pc = s.pc := rfl
@[simp] theorem State.setFlagsShadow_flags (s : State) (v : Byte) : (s.setFlagsShadow v).flags = s.flags := rfl
@[simp] theorem State.setFlagsShadow_flagsShadow (s : State) (v : Byte) : (s.setFlagsShadow v).flagsShadow = v := rfl
@[simp] theorem State.setFlagsShadow_rp0 (s : State) (v : Byte) : (s.setFlagsShadow v).rp0 = s.rp0 := rfl
@[simp] theorem State.setFlagsShadow_rp1 (s : State) (v : Byte) : (s.setFlagsShadow v).rp1 = s.rp1 := rfl
@[simp] theorem State.setFlagsShadow_sph (s : State) (v : Byte) : (s.setFlagsShadow v).sph = s.sph := rfl
@[simp] theorem State.setFlagsShadow_spl (s : State) (v : Byte) : (s.setFlagsShadow v).spl = s.spl := rfl
@[simp] theorem State.setFlagsShadow_iph (s : State) (v : Byte) : (s.setFlagsShadow v).iph = s.iph := rfl
@[simp] theorem State.setFlagsShadow_ipl (s : State) (v : Byte) : (s.setFlagsShadow v).ipl = s.ipl := rfl
@[simp] theorem State.setFlagsShadow_imr (s : State) (v : Byte) : (s.setFlagsShadow v).imr = s.imr := rfl
@[simp] theorem State.setFlagsShadow_sym (s : State) (v : Byte) : (s.setFlagsShadow v).sym = s.sym := rfl
@[simp] theorem State.setFlagsShadow_pp (s : State) (v : Byte) : (s.setFlagsShadow v).pp = s.pp := rfl
@[simp] theorem State.setFlagsShadow_ipr (s : State) (v : Byte) : (s.setFlagsShadow v).ipr = s.ipr := rfl
@[simp] theorem State.setFlagsShadow_iprEpoch (s : State) (v : Byte) : (s.setFlagsShadow v).iprEpoch = s.iprEpoch := rfl
@[simp] theorem State.setFlagsShadow_t0cnt (s : State) (v : Byte) : (s.setFlagsShadow v).t0cnt = s.t0cnt := rfl
@[simp] theorem State.setFlagsShadow_t0data (s : State) (v : Byte) : (s.setFlagsShadow v).t0data = s.t0data := rfl
@[simp] theorem State.setFlagsShadow_t0con (s : State) (v : Byte) : (s.setFlagsShadow v).t0con = s.t0con := rfl
@[simp] theorem State.setFlagsShadow_btcon (s : State) (v : Byte) : (s.setFlagsShadow v).btcon = s.btcon := rfl
@[simp] theorem State.setFlagsShadow_clkcon (s : State) (v : Byte) : (s.setFlagsShadow v).clkcon = s.clkcon := rfl
@[simp] theorem State.setFlagsShadow_btcnt (s : State) (v : Byte) : (s.setFlagsShadow v).btcnt = s.btcnt := rfl
@[simp] theorem State.setFlagsShadow_regs (s : State) (v : Byte) : (s.setFlagsShadow v).regs = s.regs := rfl
@[simp] theorem State.setFlagsShadow_rom (s : State) (v : Byte) : (s.setFlagsShadow v).rom = s.rom := rfl
@[simp] theorem State.setFlagsShadow_data (s : State) (v : Byte) : (s.setFlagsShadow v).data = s.data := rfl
@[simp] theorem State.setFlagsShadow_pending (s : State) (v : Byte) : (s.setFlagsShadow v).pending = s.pending := rfl
@[simp] theorem State.setFlagsShadow_power (s : State) (v : Byte) : (s.setFlagsShadow v).power = s.power := rfl
@[simp] theorem State.setFlagsShadow_waiting (s : State) (v : Byte) : (s.setFlagsShadow v).waiting = s.waiting := rfl
@[simp] theorem State.setFlagsShadow_latency (s : State) (v : Byte) : (s.setFlagsShadow v).latency = s.latency := rfl
@[simp] theorem State.setFlagsShadow_events (s : State) (v : Byte) : (s.setFlagsShadow v).events = s.events := rfl
@[simp] theorem State.setFlagsShadow_env (s : State) (v : Byte) : (s.setFlagsShadow v).env = s.env := rfl
@[simp] theorem State.setFlagsShadow_tick (s : State) (v : Byte) : (s.setFlagsShadow v).tick = s.tick := rfl

/-! ## `State.setRp0` -/

@[simp] theorem State.setRp0_launch (s : State) (v : Byte) : (s.setRp0 v).launch = s.launch := rfl
@[simp] theorem State.setRp0_pc (s : State) (v : Byte) : (s.setRp0 v).pc = s.pc := rfl
@[simp] theorem State.setRp0_flags (s : State) (v : Byte) : (s.setRp0 v).flags = s.flags := rfl
@[simp] theorem State.setRp0_flagsShadow (s : State) (v : Byte) : (s.setRp0 v).flagsShadow = s.flagsShadow := rfl
@[simp] theorem State.setRp0_rp0 (s : State) (v : Byte) : (s.setRp0 v).rp0 = v := rfl
@[simp] theorem State.setRp0_rp1 (s : State) (v : Byte) : (s.setRp0 v).rp1 = s.rp1 := rfl
@[simp] theorem State.setRp0_sph (s : State) (v : Byte) : (s.setRp0 v).sph = s.sph := rfl
@[simp] theorem State.setRp0_spl (s : State) (v : Byte) : (s.setRp0 v).spl = s.spl := rfl
@[simp] theorem State.setRp0_iph (s : State) (v : Byte) : (s.setRp0 v).iph = s.iph := rfl
@[simp] theorem State.setRp0_ipl (s : State) (v : Byte) : (s.setRp0 v).ipl = s.ipl := rfl
@[simp] theorem State.setRp0_imr (s : State) (v : Byte) : (s.setRp0 v).imr = s.imr := rfl
@[simp] theorem State.setRp0_sym (s : State) (v : Byte) : (s.setRp0 v).sym = s.sym := rfl
@[simp] theorem State.setRp0_pp (s : State) (v : Byte) : (s.setRp0 v).pp = s.pp := rfl
@[simp] theorem State.setRp0_ipr (s : State) (v : Byte) : (s.setRp0 v).ipr = s.ipr := rfl
@[simp] theorem State.setRp0_iprEpoch (s : State) (v : Byte) : (s.setRp0 v).iprEpoch = s.iprEpoch := rfl
@[simp] theorem State.setRp0_t0cnt (s : State) (v : Byte) : (s.setRp0 v).t0cnt = s.t0cnt := rfl
@[simp] theorem State.setRp0_t0data (s : State) (v : Byte) : (s.setRp0 v).t0data = s.t0data := rfl
@[simp] theorem State.setRp0_t0con (s : State) (v : Byte) : (s.setRp0 v).t0con = s.t0con := rfl
@[simp] theorem State.setRp0_btcon (s : State) (v : Byte) : (s.setRp0 v).btcon = s.btcon := rfl
@[simp] theorem State.setRp0_clkcon (s : State) (v : Byte) : (s.setRp0 v).clkcon = s.clkcon := rfl
@[simp] theorem State.setRp0_btcnt (s : State) (v : Byte) : (s.setRp0 v).btcnt = s.btcnt := rfl
@[simp] theorem State.setRp0_regs (s : State) (v : Byte) : (s.setRp0 v).regs = s.regs := rfl
@[simp] theorem State.setRp0_rom (s : State) (v : Byte) : (s.setRp0 v).rom = s.rom := rfl
@[simp] theorem State.setRp0_data (s : State) (v : Byte) : (s.setRp0 v).data = s.data := rfl
@[simp] theorem State.setRp0_pending (s : State) (v : Byte) : (s.setRp0 v).pending = s.pending := rfl
@[simp] theorem State.setRp0_power (s : State) (v : Byte) : (s.setRp0 v).power = s.power := rfl
@[simp] theorem State.setRp0_waiting (s : State) (v : Byte) : (s.setRp0 v).waiting = s.waiting := rfl
@[simp] theorem State.setRp0_latency (s : State) (v : Byte) : (s.setRp0 v).latency = s.latency := rfl
@[simp] theorem State.setRp0_events (s : State) (v : Byte) : (s.setRp0 v).events = s.events := rfl
@[simp] theorem State.setRp0_env (s : State) (v : Byte) : (s.setRp0 v).env = s.env := rfl
@[simp] theorem State.setRp0_tick (s : State) (v : Byte) : (s.setRp0 v).tick = s.tick := rfl

/-! ## `State.setRp1` -/

@[simp] theorem State.setRp1_launch (s : State) (v : Byte) : (s.setRp1 v).launch = s.launch := rfl
@[simp] theorem State.setRp1_pc (s : State) (v : Byte) : (s.setRp1 v).pc = s.pc := rfl
@[simp] theorem State.setRp1_flags (s : State) (v : Byte) : (s.setRp1 v).flags = s.flags := rfl
@[simp] theorem State.setRp1_flagsShadow (s : State) (v : Byte) : (s.setRp1 v).flagsShadow = s.flagsShadow := rfl
@[simp] theorem State.setRp1_rp0 (s : State) (v : Byte) : (s.setRp1 v).rp0 = s.rp0 := rfl
@[simp] theorem State.setRp1_rp1 (s : State) (v : Byte) : (s.setRp1 v).rp1 = v := rfl
@[simp] theorem State.setRp1_sph (s : State) (v : Byte) : (s.setRp1 v).sph = s.sph := rfl
@[simp] theorem State.setRp1_spl (s : State) (v : Byte) : (s.setRp1 v).spl = s.spl := rfl
@[simp] theorem State.setRp1_iph (s : State) (v : Byte) : (s.setRp1 v).iph = s.iph := rfl
@[simp] theorem State.setRp1_ipl (s : State) (v : Byte) : (s.setRp1 v).ipl = s.ipl := rfl
@[simp] theorem State.setRp1_imr (s : State) (v : Byte) : (s.setRp1 v).imr = s.imr := rfl
@[simp] theorem State.setRp1_sym (s : State) (v : Byte) : (s.setRp1 v).sym = s.sym := rfl
@[simp] theorem State.setRp1_pp (s : State) (v : Byte) : (s.setRp1 v).pp = s.pp := rfl
@[simp] theorem State.setRp1_ipr (s : State) (v : Byte) : (s.setRp1 v).ipr = s.ipr := rfl
@[simp] theorem State.setRp1_iprEpoch (s : State) (v : Byte) : (s.setRp1 v).iprEpoch = s.iprEpoch := rfl
@[simp] theorem State.setRp1_t0cnt (s : State) (v : Byte) : (s.setRp1 v).t0cnt = s.t0cnt := rfl
@[simp] theorem State.setRp1_t0data (s : State) (v : Byte) : (s.setRp1 v).t0data = s.t0data := rfl
@[simp] theorem State.setRp1_t0con (s : State) (v : Byte) : (s.setRp1 v).t0con = s.t0con := rfl
@[simp] theorem State.setRp1_btcon (s : State) (v : Byte) : (s.setRp1 v).btcon = s.btcon := rfl
@[simp] theorem State.setRp1_clkcon (s : State) (v : Byte) : (s.setRp1 v).clkcon = s.clkcon := rfl
@[simp] theorem State.setRp1_btcnt (s : State) (v : Byte) : (s.setRp1 v).btcnt = s.btcnt := rfl
@[simp] theorem State.setRp1_regs (s : State) (v : Byte) : (s.setRp1 v).regs = s.regs := rfl
@[simp] theorem State.setRp1_rom (s : State) (v : Byte) : (s.setRp1 v).rom = s.rom := rfl
@[simp] theorem State.setRp1_data (s : State) (v : Byte) : (s.setRp1 v).data = s.data := rfl
@[simp] theorem State.setRp1_pending (s : State) (v : Byte) : (s.setRp1 v).pending = s.pending := rfl
@[simp] theorem State.setRp1_power (s : State) (v : Byte) : (s.setRp1 v).power = s.power := rfl
@[simp] theorem State.setRp1_waiting (s : State) (v : Byte) : (s.setRp1 v).waiting = s.waiting := rfl
@[simp] theorem State.setRp1_latency (s : State) (v : Byte) : (s.setRp1 v).latency = s.latency := rfl
@[simp] theorem State.setRp1_events (s : State) (v : Byte) : (s.setRp1 v).events = s.events := rfl
@[simp] theorem State.setRp1_env (s : State) (v : Byte) : (s.setRp1 v).env = s.env := rfl
@[simp] theorem State.setRp1_tick (s : State) (v : Byte) : (s.setRp1 v).tick = s.tick := rfl

/-! ## `State.setSph` -/

@[simp] theorem State.setSph_launch (s : State) (v : Byte) : (s.setSph v).launch = s.launch := rfl
@[simp] theorem State.setSph_pc (s : State) (v : Byte) : (s.setSph v).pc = s.pc := rfl
@[simp] theorem State.setSph_flags (s : State) (v : Byte) : (s.setSph v).flags = s.flags := rfl
@[simp] theorem State.setSph_flagsShadow (s : State) (v : Byte) : (s.setSph v).flagsShadow = s.flagsShadow := rfl
@[simp] theorem State.setSph_rp0 (s : State) (v : Byte) : (s.setSph v).rp0 = s.rp0 := rfl
@[simp] theorem State.setSph_rp1 (s : State) (v : Byte) : (s.setSph v).rp1 = s.rp1 := rfl
@[simp] theorem State.setSph_sph (s : State) (v : Byte) : (s.setSph v).sph = v := rfl
@[simp] theorem State.setSph_spl (s : State) (v : Byte) : (s.setSph v).spl = s.spl := rfl
@[simp] theorem State.setSph_iph (s : State) (v : Byte) : (s.setSph v).iph = s.iph := rfl
@[simp] theorem State.setSph_ipl (s : State) (v : Byte) : (s.setSph v).ipl = s.ipl := rfl
@[simp] theorem State.setSph_imr (s : State) (v : Byte) : (s.setSph v).imr = s.imr := rfl
@[simp] theorem State.setSph_sym (s : State) (v : Byte) : (s.setSph v).sym = s.sym := rfl
@[simp] theorem State.setSph_pp (s : State) (v : Byte) : (s.setSph v).pp = s.pp := rfl
@[simp] theorem State.setSph_ipr (s : State) (v : Byte) : (s.setSph v).ipr = s.ipr := rfl
@[simp] theorem State.setSph_iprEpoch (s : State) (v : Byte) : (s.setSph v).iprEpoch = s.iprEpoch := rfl
@[simp] theorem State.setSph_t0cnt (s : State) (v : Byte) : (s.setSph v).t0cnt = s.t0cnt := rfl
@[simp] theorem State.setSph_t0data (s : State) (v : Byte) : (s.setSph v).t0data = s.t0data := rfl
@[simp] theorem State.setSph_t0con (s : State) (v : Byte) : (s.setSph v).t0con = s.t0con := rfl
@[simp] theorem State.setSph_btcon (s : State) (v : Byte) : (s.setSph v).btcon = s.btcon := rfl
@[simp] theorem State.setSph_clkcon (s : State) (v : Byte) : (s.setSph v).clkcon = s.clkcon := rfl
@[simp] theorem State.setSph_btcnt (s : State) (v : Byte) : (s.setSph v).btcnt = s.btcnt := rfl
@[simp] theorem State.setSph_regs (s : State) (v : Byte) : (s.setSph v).regs = s.regs := rfl
@[simp] theorem State.setSph_rom (s : State) (v : Byte) : (s.setSph v).rom = s.rom := rfl
@[simp] theorem State.setSph_data (s : State) (v : Byte) : (s.setSph v).data = s.data := rfl
@[simp] theorem State.setSph_pending (s : State) (v : Byte) : (s.setSph v).pending = s.pending := rfl
@[simp] theorem State.setSph_power (s : State) (v : Byte) : (s.setSph v).power = s.power := rfl
@[simp] theorem State.setSph_waiting (s : State) (v : Byte) : (s.setSph v).waiting = s.waiting := rfl
@[simp] theorem State.setSph_latency (s : State) (v : Byte) : (s.setSph v).latency = s.latency := rfl
@[simp] theorem State.setSph_events (s : State) (v : Byte) : (s.setSph v).events = s.events := rfl
@[simp] theorem State.setSph_env (s : State) (v : Byte) : (s.setSph v).env = s.env := rfl
@[simp] theorem State.setSph_tick (s : State) (v : Byte) : (s.setSph v).tick = s.tick := rfl

/-! ## `State.setSpl` -/

@[simp] theorem State.setSpl_launch (s : State) (v : Byte) : (s.setSpl v).launch = s.launch := rfl
@[simp] theorem State.setSpl_pc (s : State) (v : Byte) : (s.setSpl v).pc = s.pc := rfl
@[simp] theorem State.setSpl_flags (s : State) (v : Byte) : (s.setSpl v).flags = s.flags := rfl
@[simp] theorem State.setSpl_flagsShadow (s : State) (v : Byte) : (s.setSpl v).flagsShadow = s.flagsShadow := rfl
@[simp] theorem State.setSpl_rp0 (s : State) (v : Byte) : (s.setSpl v).rp0 = s.rp0 := rfl
@[simp] theorem State.setSpl_rp1 (s : State) (v : Byte) : (s.setSpl v).rp1 = s.rp1 := rfl
@[simp] theorem State.setSpl_sph (s : State) (v : Byte) : (s.setSpl v).sph = s.sph := rfl
@[simp] theorem State.setSpl_spl (s : State) (v : Byte) : (s.setSpl v).spl = v := rfl
@[simp] theorem State.setSpl_iph (s : State) (v : Byte) : (s.setSpl v).iph = s.iph := rfl
@[simp] theorem State.setSpl_ipl (s : State) (v : Byte) : (s.setSpl v).ipl = s.ipl := rfl
@[simp] theorem State.setSpl_imr (s : State) (v : Byte) : (s.setSpl v).imr = s.imr := rfl
@[simp] theorem State.setSpl_sym (s : State) (v : Byte) : (s.setSpl v).sym = s.sym := rfl
@[simp] theorem State.setSpl_pp (s : State) (v : Byte) : (s.setSpl v).pp = s.pp := rfl
@[simp] theorem State.setSpl_ipr (s : State) (v : Byte) : (s.setSpl v).ipr = s.ipr := rfl
@[simp] theorem State.setSpl_iprEpoch (s : State) (v : Byte) : (s.setSpl v).iprEpoch = s.iprEpoch := rfl
@[simp] theorem State.setSpl_t0cnt (s : State) (v : Byte) : (s.setSpl v).t0cnt = s.t0cnt := rfl
@[simp] theorem State.setSpl_t0data (s : State) (v : Byte) : (s.setSpl v).t0data = s.t0data := rfl
@[simp] theorem State.setSpl_t0con (s : State) (v : Byte) : (s.setSpl v).t0con = s.t0con := rfl
@[simp] theorem State.setSpl_btcon (s : State) (v : Byte) : (s.setSpl v).btcon = s.btcon := rfl
@[simp] theorem State.setSpl_clkcon (s : State) (v : Byte) : (s.setSpl v).clkcon = s.clkcon := rfl
@[simp] theorem State.setSpl_btcnt (s : State) (v : Byte) : (s.setSpl v).btcnt = s.btcnt := rfl
@[simp] theorem State.setSpl_regs (s : State) (v : Byte) : (s.setSpl v).regs = s.regs := rfl
@[simp] theorem State.setSpl_rom (s : State) (v : Byte) : (s.setSpl v).rom = s.rom := rfl
@[simp] theorem State.setSpl_data (s : State) (v : Byte) : (s.setSpl v).data = s.data := rfl
@[simp] theorem State.setSpl_pending (s : State) (v : Byte) : (s.setSpl v).pending = s.pending := rfl
@[simp] theorem State.setSpl_power (s : State) (v : Byte) : (s.setSpl v).power = s.power := rfl
@[simp] theorem State.setSpl_waiting (s : State) (v : Byte) : (s.setSpl v).waiting = s.waiting := rfl
@[simp] theorem State.setSpl_latency (s : State) (v : Byte) : (s.setSpl v).latency = s.latency := rfl
@[simp] theorem State.setSpl_events (s : State) (v : Byte) : (s.setSpl v).events = s.events := rfl
@[simp] theorem State.setSpl_env (s : State) (v : Byte) : (s.setSpl v).env = s.env := rfl
@[simp] theorem State.setSpl_tick (s : State) (v : Byte) : (s.setSpl v).tick = s.tick := rfl

/-! ## `State.setIph` -/

@[simp] theorem State.setIph_launch (s : State) (v : Byte) : (s.setIph v).launch = s.launch := rfl
@[simp] theorem State.setIph_pc (s : State) (v : Byte) : (s.setIph v).pc = s.pc := rfl
@[simp] theorem State.setIph_flags (s : State) (v : Byte) : (s.setIph v).flags = s.flags := rfl
@[simp] theorem State.setIph_flagsShadow (s : State) (v : Byte) : (s.setIph v).flagsShadow = s.flagsShadow := rfl
@[simp] theorem State.setIph_rp0 (s : State) (v : Byte) : (s.setIph v).rp0 = s.rp0 := rfl
@[simp] theorem State.setIph_rp1 (s : State) (v : Byte) : (s.setIph v).rp1 = s.rp1 := rfl
@[simp] theorem State.setIph_sph (s : State) (v : Byte) : (s.setIph v).sph = s.sph := rfl
@[simp] theorem State.setIph_spl (s : State) (v : Byte) : (s.setIph v).spl = s.spl := rfl
@[simp] theorem State.setIph_iph (s : State) (v : Byte) : (s.setIph v).iph = v := rfl
@[simp] theorem State.setIph_ipl (s : State) (v : Byte) : (s.setIph v).ipl = s.ipl := rfl
@[simp] theorem State.setIph_imr (s : State) (v : Byte) : (s.setIph v).imr = s.imr := rfl
@[simp] theorem State.setIph_sym (s : State) (v : Byte) : (s.setIph v).sym = s.sym := rfl
@[simp] theorem State.setIph_pp (s : State) (v : Byte) : (s.setIph v).pp = s.pp := rfl
@[simp] theorem State.setIph_ipr (s : State) (v : Byte) : (s.setIph v).ipr = s.ipr := rfl
@[simp] theorem State.setIph_iprEpoch (s : State) (v : Byte) : (s.setIph v).iprEpoch = s.iprEpoch := rfl
@[simp] theorem State.setIph_t0cnt (s : State) (v : Byte) : (s.setIph v).t0cnt = s.t0cnt := rfl
@[simp] theorem State.setIph_t0data (s : State) (v : Byte) : (s.setIph v).t0data = s.t0data := rfl
@[simp] theorem State.setIph_t0con (s : State) (v : Byte) : (s.setIph v).t0con = s.t0con := rfl
@[simp] theorem State.setIph_btcon (s : State) (v : Byte) : (s.setIph v).btcon = s.btcon := rfl
@[simp] theorem State.setIph_clkcon (s : State) (v : Byte) : (s.setIph v).clkcon = s.clkcon := rfl
@[simp] theorem State.setIph_btcnt (s : State) (v : Byte) : (s.setIph v).btcnt = s.btcnt := rfl
@[simp] theorem State.setIph_regs (s : State) (v : Byte) : (s.setIph v).regs = s.regs := rfl
@[simp] theorem State.setIph_rom (s : State) (v : Byte) : (s.setIph v).rom = s.rom := rfl
@[simp] theorem State.setIph_data (s : State) (v : Byte) : (s.setIph v).data = s.data := rfl
@[simp] theorem State.setIph_pending (s : State) (v : Byte) : (s.setIph v).pending = s.pending := rfl
@[simp] theorem State.setIph_power (s : State) (v : Byte) : (s.setIph v).power = s.power := rfl
@[simp] theorem State.setIph_waiting (s : State) (v : Byte) : (s.setIph v).waiting = s.waiting := rfl
@[simp] theorem State.setIph_latency (s : State) (v : Byte) : (s.setIph v).latency = s.latency := rfl
@[simp] theorem State.setIph_events (s : State) (v : Byte) : (s.setIph v).events = s.events := rfl
@[simp] theorem State.setIph_env (s : State) (v : Byte) : (s.setIph v).env = s.env := rfl
@[simp] theorem State.setIph_tick (s : State) (v : Byte) : (s.setIph v).tick = s.tick := rfl

/-! ## `State.setIpl` -/

@[simp] theorem State.setIpl_launch (s : State) (v : Byte) : (s.setIpl v).launch = s.launch := rfl
@[simp] theorem State.setIpl_pc (s : State) (v : Byte) : (s.setIpl v).pc = s.pc := rfl
@[simp] theorem State.setIpl_flags (s : State) (v : Byte) : (s.setIpl v).flags = s.flags := rfl
@[simp] theorem State.setIpl_flagsShadow (s : State) (v : Byte) : (s.setIpl v).flagsShadow = s.flagsShadow := rfl
@[simp] theorem State.setIpl_rp0 (s : State) (v : Byte) : (s.setIpl v).rp0 = s.rp0 := rfl
@[simp] theorem State.setIpl_rp1 (s : State) (v : Byte) : (s.setIpl v).rp1 = s.rp1 := rfl
@[simp] theorem State.setIpl_sph (s : State) (v : Byte) : (s.setIpl v).sph = s.sph := rfl
@[simp] theorem State.setIpl_spl (s : State) (v : Byte) : (s.setIpl v).spl = s.spl := rfl
@[simp] theorem State.setIpl_iph (s : State) (v : Byte) : (s.setIpl v).iph = s.iph := rfl
@[simp] theorem State.setIpl_ipl (s : State) (v : Byte) : (s.setIpl v).ipl = v := rfl
@[simp] theorem State.setIpl_imr (s : State) (v : Byte) : (s.setIpl v).imr = s.imr := rfl
@[simp] theorem State.setIpl_sym (s : State) (v : Byte) : (s.setIpl v).sym = s.sym := rfl
@[simp] theorem State.setIpl_pp (s : State) (v : Byte) : (s.setIpl v).pp = s.pp := rfl
@[simp] theorem State.setIpl_ipr (s : State) (v : Byte) : (s.setIpl v).ipr = s.ipr := rfl
@[simp] theorem State.setIpl_iprEpoch (s : State) (v : Byte) : (s.setIpl v).iprEpoch = s.iprEpoch := rfl
@[simp] theorem State.setIpl_t0cnt (s : State) (v : Byte) : (s.setIpl v).t0cnt = s.t0cnt := rfl
@[simp] theorem State.setIpl_t0data (s : State) (v : Byte) : (s.setIpl v).t0data = s.t0data := rfl
@[simp] theorem State.setIpl_t0con (s : State) (v : Byte) : (s.setIpl v).t0con = s.t0con := rfl
@[simp] theorem State.setIpl_btcon (s : State) (v : Byte) : (s.setIpl v).btcon = s.btcon := rfl
@[simp] theorem State.setIpl_clkcon (s : State) (v : Byte) : (s.setIpl v).clkcon = s.clkcon := rfl
@[simp] theorem State.setIpl_btcnt (s : State) (v : Byte) : (s.setIpl v).btcnt = s.btcnt := rfl
@[simp] theorem State.setIpl_regs (s : State) (v : Byte) : (s.setIpl v).regs = s.regs := rfl
@[simp] theorem State.setIpl_rom (s : State) (v : Byte) : (s.setIpl v).rom = s.rom := rfl
@[simp] theorem State.setIpl_data (s : State) (v : Byte) : (s.setIpl v).data = s.data := rfl
@[simp] theorem State.setIpl_pending (s : State) (v : Byte) : (s.setIpl v).pending = s.pending := rfl
@[simp] theorem State.setIpl_power (s : State) (v : Byte) : (s.setIpl v).power = s.power := rfl
@[simp] theorem State.setIpl_waiting (s : State) (v : Byte) : (s.setIpl v).waiting = s.waiting := rfl
@[simp] theorem State.setIpl_latency (s : State) (v : Byte) : (s.setIpl v).latency = s.latency := rfl
@[simp] theorem State.setIpl_events (s : State) (v : Byte) : (s.setIpl v).events = s.events := rfl
@[simp] theorem State.setIpl_env (s : State) (v : Byte) : (s.setIpl v).env = s.env := rfl
@[simp] theorem State.setIpl_tick (s : State) (v : Byte) : (s.setIpl v).tick = s.tick := rfl

/-! ## `State.setImr` -/

@[simp] theorem State.setImr_launch (s : State) (v : Byte) : (s.setImr v).launch = s.launch := rfl
@[simp] theorem State.setImr_pc (s : State) (v : Byte) : (s.setImr v).pc = s.pc := rfl
@[simp] theorem State.setImr_flags (s : State) (v : Byte) : (s.setImr v).flags = s.flags := rfl
@[simp] theorem State.setImr_flagsShadow (s : State) (v : Byte) : (s.setImr v).flagsShadow = s.flagsShadow := rfl
@[simp] theorem State.setImr_rp0 (s : State) (v : Byte) : (s.setImr v).rp0 = s.rp0 := rfl
@[simp] theorem State.setImr_rp1 (s : State) (v : Byte) : (s.setImr v).rp1 = s.rp1 := rfl
@[simp] theorem State.setImr_sph (s : State) (v : Byte) : (s.setImr v).sph = s.sph := rfl
@[simp] theorem State.setImr_spl (s : State) (v : Byte) : (s.setImr v).spl = s.spl := rfl
@[simp] theorem State.setImr_iph (s : State) (v : Byte) : (s.setImr v).iph = s.iph := rfl
@[simp] theorem State.setImr_ipl (s : State) (v : Byte) : (s.setImr v).ipl = s.ipl := rfl
@[simp] theorem State.setImr_imr (s : State) (v : Byte) : (s.setImr v).imr = v := rfl
@[simp] theorem State.setImr_sym (s : State) (v : Byte) : (s.setImr v).sym = s.sym := rfl
@[simp] theorem State.setImr_pp (s : State) (v : Byte) : (s.setImr v).pp = s.pp := rfl
@[simp] theorem State.setImr_ipr (s : State) (v : Byte) : (s.setImr v).ipr = s.ipr := rfl
@[simp] theorem State.setImr_iprEpoch (s : State) (v : Byte) : (s.setImr v).iprEpoch = s.iprEpoch := rfl
@[simp] theorem State.setImr_t0cnt (s : State) (v : Byte) : (s.setImr v).t0cnt = s.t0cnt := rfl
@[simp] theorem State.setImr_t0data (s : State) (v : Byte) : (s.setImr v).t0data = s.t0data := rfl
@[simp] theorem State.setImr_t0con (s : State) (v : Byte) : (s.setImr v).t0con = s.t0con := rfl
@[simp] theorem State.setImr_btcon (s : State) (v : Byte) : (s.setImr v).btcon = s.btcon := rfl
@[simp] theorem State.setImr_clkcon (s : State) (v : Byte) : (s.setImr v).clkcon = s.clkcon := rfl
@[simp] theorem State.setImr_btcnt (s : State) (v : Byte) : (s.setImr v).btcnt = s.btcnt := rfl
@[simp] theorem State.setImr_regs (s : State) (v : Byte) : (s.setImr v).regs = s.regs := rfl
@[simp] theorem State.setImr_rom (s : State) (v : Byte) : (s.setImr v).rom = s.rom := rfl
@[simp] theorem State.setImr_data (s : State) (v : Byte) : (s.setImr v).data = s.data := rfl
@[simp] theorem State.setImr_pending (s : State) (v : Byte) : (s.setImr v).pending = s.pending := rfl
@[simp] theorem State.setImr_power (s : State) (v : Byte) : (s.setImr v).power = s.power := rfl
@[simp] theorem State.setImr_waiting (s : State) (v : Byte) : (s.setImr v).waiting = s.waiting := rfl
@[simp] theorem State.setImr_latency (s : State) (v : Byte) : (s.setImr v).latency = s.latency := rfl
@[simp] theorem State.setImr_events (s : State) (v : Byte) : (s.setImr v).events = s.events := rfl
@[simp] theorem State.setImr_env (s : State) (v : Byte) : (s.setImr v).env = s.env := rfl
@[simp] theorem State.setImr_tick (s : State) (v : Byte) : (s.setImr v).tick = s.tick := rfl

/-! ## `State.setSym` -/

@[simp] theorem State.setSym_launch (s : State) (v : Byte) : (s.setSym v).launch = s.launch := rfl
@[simp] theorem State.setSym_pc (s : State) (v : Byte) : (s.setSym v).pc = s.pc := rfl
@[simp] theorem State.setSym_flags (s : State) (v : Byte) : (s.setSym v).flags = s.flags := rfl
@[simp] theorem State.setSym_flagsShadow (s : State) (v : Byte) : (s.setSym v).flagsShadow = s.flagsShadow := rfl
@[simp] theorem State.setSym_rp0 (s : State) (v : Byte) : (s.setSym v).rp0 = s.rp0 := rfl
@[simp] theorem State.setSym_rp1 (s : State) (v : Byte) : (s.setSym v).rp1 = s.rp1 := rfl
@[simp] theorem State.setSym_sph (s : State) (v : Byte) : (s.setSym v).sph = s.sph := rfl
@[simp] theorem State.setSym_spl (s : State) (v : Byte) : (s.setSym v).spl = s.spl := rfl
@[simp] theorem State.setSym_iph (s : State) (v : Byte) : (s.setSym v).iph = s.iph := rfl
@[simp] theorem State.setSym_ipl (s : State) (v : Byte) : (s.setSym v).ipl = s.ipl := rfl
@[simp] theorem State.setSym_imr (s : State) (v : Byte) : (s.setSym v).imr = s.imr := rfl
@[simp] theorem State.setSym_sym (s : State) (v : Byte) : (s.setSym v).sym = v := rfl
@[simp] theorem State.setSym_pp (s : State) (v : Byte) : (s.setSym v).pp = s.pp := rfl
@[simp] theorem State.setSym_ipr (s : State) (v : Byte) : (s.setSym v).ipr = s.ipr := rfl
@[simp] theorem State.setSym_iprEpoch (s : State) (v : Byte) : (s.setSym v).iprEpoch = s.iprEpoch := rfl
@[simp] theorem State.setSym_t0cnt (s : State) (v : Byte) : (s.setSym v).t0cnt = s.t0cnt := rfl
@[simp] theorem State.setSym_t0data (s : State) (v : Byte) : (s.setSym v).t0data = s.t0data := rfl
@[simp] theorem State.setSym_t0con (s : State) (v : Byte) : (s.setSym v).t0con = s.t0con := rfl
@[simp] theorem State.setSym_btcon (s : State) (v : Byte) : (s.setSym v).btcon = s.btcon := rfl
@[simp] theorem State.setSym_clkcon (s : State) (v : Byte) : (s.setSym v).clkcon = s.clkcon := rfl
@[simp] theorem State.setSym_btcnt (s : State) (v : Byte) : (s.setSym v).btcnt = s.btcnt := rfl
@[simp] theorem State.setSym_regs (s : State) (v : Byte) : (s.setSym v).regs = s.regs := rfl
@[simp] theorem State.setSym_rom (s : State) (v : Byte) : (s.setSym v).rom = s.rom := rfl
@[simp] theorem State.setSym_data (s : State) (v : Byte) : (s.setSym v).data = s.data := rfl
@[simp] theorem State.setSym_pending (s : State) (v : Byte) : (s.setSym v).pending = s.pending := rfl
@[simp] theorem State.setSym_power (s : State) (v : Byte) : (s.setSym v).power = s.power := rfl
@[simp] theorem State.setSym_waiting (s : State) (v : Byte) : (s.setSym v).waiting = s.waiting := rfl
@[simp] theorem State.setSym_latency (s : State) (v : Byte) : (s.setSym v).latency = s.latency := rfl
@[simp] theorem State.setSym_events (s : State) (v : Byte) : (s.setSym v).events = s.events := rfl
@[simp] theorem State.setSym_env (s : State) (v : Byte) : (s.setSym v).env = s.env := rfl
@[simp] theorem State.setSym_tick (s : State) (v : Byte) : (s.setSym v).tick = s.tick := rfl

/-! ## `State.setPp` -/

@[simp] theorem State.setPp_launch (s : State) (v : Byte) : (s.setPp v).launch = s.launch := rfl
@[simp] theorem State.setPp_pc (s : State) (v : Byte) : (s.setPp v).pc = s.pc := rfl
@[simp] theorem State.setPp_flags (s : State) (v : Byte) : (s.setPp v).flags = s.flags := rfl
@[simp] theorem State.setPp_flagsShadow (s : State) (v : Byte) : (s.setPp v).flagsShadow = s.flagsShadow := rfl
@[simp] theorem State.setPp_rp0 (s : State) (v : Byte) : (s.setPp v).rp0 = s.rp0 := rfl
@[simp] theorem State.setPp_rp1 (s : State) (v : Byte) : (s.setPp v).rp1 = s.rp1 := rfl
@[simp] theorem State.setPp_sph (s : State) (v : Byte) : (s.setPp v).sph = s.sph := rfl
@[simp] theorem State.setPp_spl (s : State) (v : Byte) : (s.setPp v).spl = s.spl := rfl
@[simp] theorem State.setPp_iph (s : State) (v : Byte) : (s.setPp v).iph = s.iph := rfl
@[simp] theorem State.setPp_ipl (s : State) (v : Byte) : (s.setPp v).ipl = s.ipl := rfl
@[simp] theorem State.setPp_imr (s : State) (v : Byte) : (s.setPp v).imr = s.imr := rfl
@[simp] theorem State.setPp_sym (s : State) (v : Byte) : (s.setPp v).sym = s.sym := rfl
@[simp] theorem State.setPp_pp (s : State) (v : Byte) : (s.setPp v).pp = v := rfl
@[simp] theorem State.setPp_ipr (s : State) (v : Byte) : (s.setPp v).ipr = s.ipr := rfl
@[simp] theorem State.setPp_iprEpoch (s : State) (v : Byte) : (s.setPp v).iprEpoch = s.iprEpoch := rfl
@[simp] theorem State.setPp_t0cnt (s : State) (v : Byte) : (s.setPp v).t0cnt = s.t0cnt := rfl
@[simp] theorem State.setPp_t0data (s : State) (v : Byte) : (s.setPp v).t0data = s.t0data := rfl
@[simp] theorem State.setPp_t0con (s : State) (v : Byte) : (s.setPp v).t0con = s.t0con := rfl
@[simp] theorem State.setPp_btcon (s : State) (v : Byte) : (s.setPp v).btcon = s.btcon := rfl
@[simp] theorem State.setPp_clkcon (s : State) (v : Byte) : (s.setPp v).clkcon = s.clkcon := rfl
@[simp] theorem State.setPp_btcnt (s : State) (v : Byte) : (s.setPp v).btcnt = s.btcnt := rfl
@[simp] theorem State.setPp_regs (s : State) (v : Byte) : (s.setPp v).regs = s.regs := rfl
@[simp] theorem State.setPp_rom (s : State) (v : Byte) : (s.setPp v).rom = s.rom := rfl
@[simp] theorem State.setPp_data (s : State) (v : Byte) : (s.setPp v).data = s.data := rfl
@[simp] theorem State.setPp_pending (s : State) (v : Byte) : (s.setPp v).pending = s.pending := rfl
@[simp] theorem State.setPp_power (s : State) (v : Byte) : (s.setPp v).power = s.power := rfl
@[simp] theorem State.setPp_waiting (s : State) (v : Byte) : (s.setPp v).waiting = s.waiting := rfl
@[simp] theorem State.setPp_latency (s : State) (v : Byte) : (s.setPp v).latency = s.latency := rfl
@[simp] theorem State.setPp_events (s : State) (v : Byte) : (s.setPp v).events = s.events := rfl
@[simp] theorem State.setPp_env (s : State) (v : Byte) : (s.setPp v).env = s.env := rfl
@[simp] theorem State.setPp_tick (s : State) (v : Byte) : (s.setPp v).tick = s.tick := rfl

/-! ## `State.setIpr` -/

@[simp] theorem State.setIpr_launch (s : State) (v : Byte) : (s.setIpr v).launch = s.launch := rfl
@[simp] theorem State.setIpr_pc (s : State) (v : Byte) : (s.setIpr v).pc = s.pc := rfl
@[simp] theorem State.setIpr_flags (s : State) (v : Byte) : (s.setIpr v).flags = s.flags := rfl
@[simp] theorem State.setIpr_flagsShadow (s : State) (v : Byte) : (s.setIpr v).flagsShadow = s.flagsShadow := rfl
@[simp] theorem State.setIpr_rp0 (s : State) (v : Byte) : (s.setIpr v).rp0 = s.rp0 := rfl
@[simp] theorem State.setIpr_rp1 (s : State) (v : Byte) : (s.setIpr v).rp1 = s.rp1 := rfl
@[simp] theorem State.setIpr_sph (s : State) (v : Byte) : (s.setIpr v).sph = s.sph := rfl
@[simp] theorem State.setIpr_spl (s : State) (v : Byte) : (s.setIpr v).spl = s.spl := rfl
@[simp] theorem State.setIpr_iph (s : State) (v : Byte) : (s.setIpr v).iph = s.iph := rfl
@[simp] theorem State.setIpr_ipl (s : State) (v : Byte) : (s.setIpr v).ipl = s.ipl := rfl
@[simp] theorem State.setIpr_imr (s : State) (v : Byte) : (s.setIpr v).imr = s.imr := rfl
@[simp] theorem State.setIpr_sym (s : State) (v : Byte) : (s.setIpr v).sym = s.sym := rfl
@[simp] theorem State.setIpr_pp (s : State) (v : Byte) : (s.setIpr v).pp = s.pp := rfl
@[simp] theorem State.setIpr_ipr (s : State) (v : Byte) : (s.setIpr v).ipr = v := rfl
@[simp] theorem State.setIpr_iprEpoch (s : State) (v : Byte) : (s.setIpr v).iprEpoch = s.iprEpoch := rfl
@[simp] theorem State.setIpr_t0cnt (s : State) (v : Byte) : (s.setIpr v).t0cnt = s.t0cnt := rfl
@[simp] theorem State.setIpr_t0data (s : State) (v : Byte) : (s.setIpr v).t0data = s.t0data := rfl
@[simp] theorem State.setIpr_t0con (s : State) (v : Byte) : (s.setIpr v).t0con = s.t0con := rfl
@[simp] theorem State.setIpr_btcon (s : State) (v : Byte) : (s.setIpr v).btcon = s.btcon := rfl
@[simp] theorem State.setIpr_clkcon (s : State) (v : Byte) : (s.setIpr v).clkcon = s.clkcon := rfl
@[simp] theorem State.setIpr_btcnt (s : State) (v : Byte) : (s.setIpr v).btcnt = s.btcnt := rfl
@[simp] theorem State.setIpr_regs (s : State) (v : Byte) : (s.setIpr v).regs = s.regs := rfl
@[simp] theorem State.setIpr_rom (s : State) (v : Byte) : (s.setIpr v).rom = s.rom := rfl
@[simp] theorem State.setIpr_data (s : State) (v : Byte) : (s.setIpr v).data = s.data := rfl
@[simp] theorem State.setIpr_pending (s : State) (v : Byte) : (s.setIpr v).pending = s.pending := rfl
@[simp] theorem State.setIpr_power (s : State) (v : Byte) : (s.setIpr v).power = s.power := rfl
@[simp] theorem State.setIpr_waiting (s : State) (v : Byte) : (s.setIpr v).waiting = s.waiting := rfl
@[simp] theorem State.setIpr_latency (s : State) (v : Byte) : (s.setIpr v).latency = s.latency := rfl
@[simp] theorem State.setIpr_events (s : State) (v : Byte) : (s.setIpr v).events = s.events := rfl
@[simp] theorem State.setIpr_env (s : State) (v : Byte) : (s.setIpr v).env = s.env := rfl
@[simp] theorem State.setIpr_tick (s : State) (v : Byte) : (s.setIpr v).tick = s.tick := rfl

/-! ## `State.setIprEpoch` -/

@[simp] theorem State.setIprEpoch_launch (s : State) (v : Nat) : (s.setIprEpoch v).launch = s.launch := rfl
@[simp] theorem State.setIprEpoch_pc (s : State) (v : Nat) : (s.setIprEpoch v).pc = s.pc := rfl
@[simp] theorem State.setIprEpoch_flags (s : State) (v : Nat) : (s.setIprEpoch v).flags = s.flags := rfl
@[simp] theorem State.setIprEpoch_flagsShadow (s : State) (v : Nat) : (s.setIprEpoch v).flagsShadow = s.flagsShadow := rfl
@[simp] theorem State.setIprEpoch_rp0 (s : State) (v : Nat) : (s.setIprEpoch v).rp0 = s.rp0 := rfl
@[simp] theorem State.setIprEpoch_rp1 (s : State) (v : Nat) : (s.setIprEpoch v).rp1 = s.rp1 := rfl
@[simp] theorem State.setIprEpoch_sph (s : State) (v : Nat) : (s.setIprEpoch v).sph = s.sph := rfl
@[simp] theorem State.setIprEpoch_spl (s : State) (v : Nat) : (s.setIprEpoch v).spl = s.spl := rfl
@[simp] theorem State.setIprEpoch_iph (s : State) (v : Nat) : (s.setIprEpoch v).iph = s.iph := rfl
@[simp] theorem State.setIprEpoch_ipl (s : State) (v : Nat) : (s.setIprEpoch v).ipl = s.ipl := rfl
@[simp] theorem State.setIprEpoch_imr (s : State) (v : Nat) : (s.setIprEpoch v).imr = s.imr := rfl
@[simp] theorem State.setIprEpoch_sym (s : State) (v : Nat) : (s.setIprEpoch v).sym = s.sym := rfl
@[simp] theorem State.setIprEpoch_pp (s : State) (v : Nat) : (s.setIprEpoch v).pp = s.pp := rfl
@[simp] theorem State.setIprEpoch_ipr (s : State) (v : Nat) : (s.setIprEpoch v).ipr = s.ipr := rfl
@[simp] theorem State.setIprEpoch_iprEpoch (s : State) (v : Nat) : (s.setIprEpoch v).iprEpoch = v := rfl
@[simp] theorem State.setIprEpoch_t0cnt (s : State) (v : Nat) : (s.setIprEpoch v).t0cnt = s.t0cnt := rfl
@[simp] theorem State.setIprEpoch_t0data (s : State) (v : Nat) : (s.setIprEpoch v).t0data = s.t0data := rfl
@[simp] theorem State.setIprEpoch_t0con (s : State) (v : Nat) : (s.setIprEpoch v).t0con = s.t0con := rfl
@[simp] theorem State.setIprEpoch_btcon (s : State) (v : Nat) : (s.setIprEpoch v).btcon = s.btcon := rfl
@[simp] theorem State.setIprEpoch_clkcon (s : State) (v : Nat) : (s.setIprEpoch v).clkcon = s.clkcon := rfl
@[simp] theorem State.setIprEpoch_btcnt (s : State) (v : Nat) : (s.setIprEpoch v).btcnt = s.btcnt := rfl
@[simp] theorem State.setIprEpoch_regs (s : State) (v : Nat) : (s.setIprEpoch v).regs = s.regs := rfl
@[simp] theorem State.setIprEpoch_rom (s : State) (v : Nat) : (s.setIprEpoch v).rom = s.rom := rfl
@[simp] theorem State.setIprEpoch_data (s : State) (v : Nat) : (s.setIprEpoch v).data = s.data := rfl
@[simp] theorem State.setIprEpoch_pending (s : State) (v : Nat) : (s.setIprEpoch v).pending = s.pending := rfl
@[simp] theorem State.setIprEpoch_power (s : State) (v : Nat) : (s.setIprEpoch v).power = s.power := rfl
@[simp] theorem State.setIprEpoch_waiting (s : State) (v : Nat) : (s.setIprEpoch v).waiting = s.waiting := rfl
@[simp] theorem State.setIprEpoch_latency (s : State) (v : Nat) : (s.setIprEpoch v).latency = s.latency := rfl
@[simp] theorem State.setIprEpoch_events (s : State) (v : Nat) : (s.setIprEpoch v).events = s.events := rfl
@[simp] theorem State.setIprEpoch_env (s : State) (v : Nat) : (s.setIprEpoch v).env = s.env := rfl
@[simp] theorem State.setIprEpoch_tick (s : State) (v : Nat) : (s.setIprEpoch v).tick = s.tick := rfl

/-! ## `State.setT0cnt` -/

@[simp] theorem State.setT0cnt_launch (s : State) (v : Byte) : (s.setT0cnt v).launch = s.launch := rfl
@[simp] theorem State.setT0cnt_pc (s : State) (v : Byte) : (s.setT0cnt v).pc = s.pc := rfl
@[simp] theorem State.setT0cnt_flags (s : State) (v : Byte) : (s.setT0cnt v).flags = s.flags := rfl
@[simp] theorem State.setT0cnt_flagsShadow (s : State) (v : Byte) : (s.setT0cnt v).flagsShadow = s.flagsShadow := rfl
@[simp] theorem State.setT0cnt_rp0 (s : State) (v : Byte) : (s.setT0cnt v).rp0 = s.rp0 := rfl
@[simp] theorem State.setT0cnt_rp1 (s : State) (v : Byte) : (s.setT0cnt v).rp1 = s.rp1 := rfl
@[simp] theorem State.setT0cnt_sph (s : State) (v : Byte) : (s.setT0cnt v).sph = s.sph := rfl
@[simp] theorem State.setT0cnt_spl (s : State) (v : Byte) : (s.setT0cnt v).spl = s.spl := rfl
@[simp] theorem State.setT0cnt_iph (s : State) (v : Byte) : (s.setT0cnt v).iph = s.iph := rfl
@[simp] theorem State.setT0cnt_ipl (s : State) (v : Byte) : (s.setT0cnt v).ipl = s.ipl := rfl
@[simp] theorem State.setT0cnt_imr (s : State) (v : Byte) : (s.setT0cnt v).imr = s.imr := rfl
@[simp] theorem State.setT0cnt_sym (s : State) (v : Byte) : (s.setT0cnt v).sym = s.sym := rfl
@[simp] theorem State.setT0cnt_pp (s : State) (v : Byte) : (s.setT0cnt v).pp = s.pp := rfl
@[simp] theorem State.setT0cnt_ipr (s : State) (v : Byte) : (s.setT0cnt v).ipr = s.ipr := rfl
@[simp] theorem State.setT0cnt_iprEpoch (s : State) (v : Byte) : (s.setT0cnt v).iprEpoch = s.iprEpoch := rfl
@[simp] theorem State.setT0cnt_t0cnt (s : State) (v : Byte) : (s.setT0cnt v).t0cnt = v := rfl
@[simp] theorem State.setT0cnt_t0data (s : State) (v : Byte) : (s.setT0cnt v).t0data = s.t0data := rfl
@[simp] theorem State.setT0cnt_t0con (s : State) (v : Byte) : (s.setT0cnt v).t0con = s.t0con := rfl
@[simp] theorem State.setT0cnt_btcon (s : State) (v : Byte) : (s.setT0cnt v).btcon = s.btcon := rfl
@[simp] theorem State.setT0cnt_clkcon (s : State) (v : Byte) : (s.setT0cnt v).clkcon = s.clkcon := rfl
@[simp] theorem State.setT0cnt_btcnt (s : State) (v : Byte) : (s.setT0cnt v).btcnt = s.btcnt := rfl
@[simp] theorem State.setT0cnt_regs (s : State) (v : Byte) : (s.setT0cnt v).regs = s.regs := rfl
@[simp] theorem State.setT0cnt_rom (s : State) (v : Byte) : (s.setT0cnt v).rom = s.rom := rfl
@[simp] theorem State.setT0cnt_data (s : State) (v : Byte) : (s.setT0cnt v).data = s.data := rfl
@[simp] theorem State.setT0cnt_pending (s : State) (v : Byte) : (s.setT0cnt v).pending = s.pending := rfl
@[simp] theorem State.setT0cnt_power (s : State) (v : Byte) : (s.setT0cnt v).power = s.power := rfl
@[simp] theorem State.setT0cnt_waiting (s : State) (v : Byte) : (s.setT0cnt v).waiting = s.waiting := rfl
@[simp] theorem State.setT0cnt_latency (s : State) (v : Byte) : (s.setT0cnt v).latency = s.latency := rfl
@[simp] theorem State.setT0cnt_events (s : State) (v : Byte) : (s.setT0cnt v).events = s.events := rfl
@[simp] theorem State.setT0cnt_env (s : State) (v : Byte) : (s.setT0cnt v).env = s.env := rfl
@[simp] theorem State.setT0cnt_tick (s : State) (v : Byte) : (s.setT0cnt v).tick = s.tick := rfl

/-! ## `State.setT0data` -/

@[simp] theorem State.setT0data_launch (s : State) (v : Byte) : (s.setT0data v).launch = s.launch := rfl
@[simp] theorem State.setT0data_pc (s : State) (v : Byte) : (s.setT0data v).pc = s.pc := rfl
@[simp] theorem State.setT0data_flags (s : State) (v : Byte) : (s.setT0data v).flags = s.flags := rfl
@[simp] theorem State.setT0data_flagsShadow (s : State) (v : Byte) : (s.setT0data v).flagsShadow = s.flagsShadow := rfl
@[simp] theorem State.setT0data_rp0 (s : State) (v : Byte) : (s.setT0data v).rp0 = s.rp0 := rfl
@[simp] theorem State.setT0data_rp1 (s : State) (v : Byte) : (s.setT0data v).rp1 = s.rp1 := rfl
@[simp] theorem State.setT0data_sph (s : State) (v : Byte) : (s.setT0data v).sph = s.sph := rfl
@[simp] theorem State.setT0data_spl (s : State) (v : Byte) : (s.setT0data v).spl = s.spl := rfl
@[simp] theorem State.setT0data_iph (s : State) (v : Byte) : (s.setT0data v).iph = s.iph := rfl
@[simp] theorem State.setT0data_ipl (s : State) (v : Byte) : (s.setT0data v).ipl = s.ipl := rfl
@[simp] theorem State.setT0data_imr (s : State) (v : Byte) : (s.setT0data v).imr = s.imr := rfl
@[simp] theorem State.setT0data_sym (s : State) (v : Byte) : (s.setT0data v).sym = s.sym := rfl
@[simp] theorem State.setT0data_pp (s : State) (v : Byte) : (s.setT0data v).pp = s.pp := rfl
@[simp] theorem State.setT0data_ipr (s : State) (v : Byte) : (s.setT0data v).ipr = s.ipr := rfl
@[simp] theorem State.setT0data_iprEpoch (s : State) (v : Byte) : (s.setT0data v).iprEpoch = s.iprEpoch := rfl
@[simp] theorem State.setT0data_t0cnt (s : State) (v : Byte) : (s.setT0data v).t0cnt = s.t0cnt := rfl
@[simp] theorem State.setT0data_t0data (s : State) (v : Byte) : (s.setT0data v).t0data = v := rfl
@[simp] theorem State.setT0data_t0con (s : State) (v : Byte) : (s.setT0data v).t0con = s.t0con := rfl
@[simp] theorem State.setT0data_btcon (s : State) (v : Byte) : (s.setT0data v).btcon = s.btcon := rfl
@[simp] theorem State.setT0data_clkcon (s : State) (v : Byte) : (s.setT0data v).clkcon = s.clkcon := rfl
@[simp] theorem State.setT0data_btcnt (s : State) (v : Byte) : (s.setT0data v).btcnt = s.btcnt := rfl
@[simp] theorem State.setT0data_regs (s : State) (v : Byte) : (s.setT0data v).regs = s.regs := rfl
@[simp] theorem State.setT0data_rom (s : State) (v : Byte) : (s.setT0data v).rom = s.rom := rfl
@[simp] theorem State.setT0data_data (s : State) (v : Byte) : (s.setT0data v).data = s.data := rfl
@[simp] theorem State.setT0data_pending (s : State) (v : Byte) : (s.setT0data v).pending = s.pending := rfl
@[simp] theorem State.setT0data_power (s : State) (v : Byte) : (s.setT0data v).power = s.power := rfl
@[simp] theorem State.setT0data_waiting (s : State) (v : Byte) : (s.setT0data v).waiting = s.waiting := rfl
@[simp] theorem State.setT0data_latency (s : State) (v : Byte) : (s.setT0data v).latency = s.latency := rfl
@[simp] theorem State.setT0data_events (s : State) (v : Byte) : (s.setT0data v).events = s.events := rfl
@[simp] theorem State.setT0data_env (s : State) (v : Byte) : (s.setT0data v).env = s.env := rfl
@[simp] theorem State.setT0data_tick (s : State) (v : Byte) : (s.setT0data v).tick = s.tick := rfl

/-! ## `State.setT0con` -/

@[simp] theorem State.setT0con_launch (s : State) (v : Byte) : (s.setT0con v).launch = s.launch := rfl
@[simp] theorem State.setT0con_pc (s : State) (v : Byte) : (s.setT0con v).pc = s.pc := rfl
@[simp] theorem State.setT0con_flags (s : State) (v : Byte) : (s.setT0con v).flags = s.flags := rfl
@[simp] theorem State.setT0con_flagsShadow (s : State) (v : Byte) : (s.setT0con v).flagsShadow = s.flagsShadow := rfl
@[simp] theorem State.setT0con_rp0 (s : State) (v : Byte) : (s.setT0con v).rp0 = s.rp0 := rfl
@[simp] theorem State.setT0con_rp1 (s : State) (v : Byte) : (s.setT0con v).rp1 = s.rp1 := rfl
@[simp] theorem State.setT0con_sph (s : State) (v : Byte) : (s.setT0con v).sph = s.sph := rfl
@[simp] theorem State.setT0con_spl (s : State) (v : Byte) : (s.setT0con v).spl = s.spl := rfl
@[simp] theorem State.setT0con_iph (s : State) (v : Byte) : (s.setT0con v).iph = s.iph := rfl
@[simp] theorem State.setT0con_ipl (s : State) (v : Byte) : (s.setT0con v).ipl = s.ipl := rfl
@[simp] theorem State.setT0con_imr (s : State) (v : Byte) : (s.setT0con v).imr = s.imr := rfl
@[simp] theorem State.setT0con_sym (s : State) (v : Byte) : (s.setT0con v).sym = s.sym := rfl
@[simp] theorem State.setT0con_pp (s : State) (v : Byte) : (s.setT0con v).pp = s.pp := rfl
@[simp] theorem State.setT0con_ipr (s : State) (v : Byte) : (s.setT0con v).ipr = s.ipr := rfl
@[simp] theorem State.setT0con_iprEpoch (s : State) (v : Byte) : (s.setT0con v).iprEpoch = s.iprEpoch := rfl
@[simp] theorem State.setT0con_t0cnt (s : State) (v : Byte) : (s.setT0con v).t0cnt = s.t0cnt := rfl
@[simp] theorem State.setT0con_t0data (s : State) (v : Byte) : (s.setT0con v).t0data = s.t0data := rfl
@[simp] theorem State.setT0con_t0con (s : State) (v : Byte) : (s.setT0con v).t0con = v := rfl
@[simp] theorem State.setT0con_btcon (s : State) (v : Byte) : (s.setT0con v).btcon = s.btcon := rfl
@[simp] theorem State.setT0con_clkcon (s : State) (v : Byte) : (s.setT0con v).clkcon = s.clkcon := rfl
@[simp] theorem State.setT0con_btcnt (s : State) (v : Byte) : (s.setT0con v).btcnt = s.btcnt := rfl
@[simp] theorem State.setT0con_regs (s : State) (v : Byte) : (s.setT0con v).regs = s.regs := rfl
@[simp] theorem State.setT0con_rom (s : State) (v : Byte) : (s.setT0con v).rom = s.rom := rfl
@[simp] theorem State.setT0con_data (s : State) (v : Byte) : (s.setT0con v).data = s.data := rfl
@[simp] theorem State.setT0con_pending (s : State) (v : Byte) : (s.setT0con v).pending = s.pending := rfl
@[simp] theorem State.setT0con_power (s : State) (v : Byte) : (s.setT0con v).power = s.power := rfl
@[simp] theorem State.setT0con_waiting (s : State) (v : Byte) : (s.setT0con v).waiting = s.waiting := rfl
@[simp] theorem State.setT0con_latency (s : State) (v : Byte) : (s.setT0con v).latency = s.latency := rfl
@[simp] theorem State.setT0con_events (s : State) (v : Byte) : (s.setT0con v).events = s.events := rfl
@[simp] theorem State.setT0con_env (s : State) (v : Byte) : (s.setT0con v).env = s.env := rfl
@[simp] theorem State.setT0con_tick (s : State) (v : Byte) : (s.setT0con v).tick = s.tick := rfl

/-! ## `State.setBtcon` -/

@[simp] theorem State.setBtcon_launch (s : State) (v : Byte) : (s.setBtcon v).launch = s.launch := rfl
@[simp] theorem State.setBtcon_pc (s : State) (v : Byte) : (s.setBtcon v).pc = s.pc := rfl
@[simp] theorem State.setBtcon_flags (s : State) (v : Byte) : (s.setBtcon v).flags = s.flags := rfl
@[simp] theorem State.setBtcon_flagsShadow (s : State) (v : Byte) : (s.setBtcon v).flagsShadow = s.flagsShadow := rfl
@[simp] theorem State.setBtcon_rp0 (s : State) (v : Byte) : (s.setBtcon v).rp0 = s.rp0 := rfl
@[simp] theorem State.setBtcon_rp1 (s : State) (v : Byte) : (s.setBtcon v).rp1 = s.rp1 := rfl
@[simp] theorem State.setBtcon_sph (s : State) (v : Byte) : (s.setBtcon v).sph = s.sph := rfl
@[simp] theorem State.setBtcon_spl (s : State) (v : Byte) : (s.setBtcon v).spl = s.spl := rfl
@[simp] theorem State.setBtcon_iph (s : State) (v : Byte) : (s.setBtcon v).iph = s.iph := rfl
@[simp] theorem State.setBtcon_ipl (s : State) (v : Byte) : (s.setBtcon v).ipl = s.ipl := rfl
@[simp] theorem State.setBtcon_imr (s : State) (v : Byte) : (s.setBtcon v).imr = s.imr := rfl
@[simp] theorem State.setBtcon_sym (s : State) (v : Byte) : (s.setBtcon v).sym = s.sym := rfl
@[simp] theorem State.setBtcon_pp (s : State) (v : Byte) : (s.setBtcon v).pp = s.pp := rfl
@[simp] theorem State.setBtcon_ipr (s : State) (v : Byte) : (s.setBtcon v).ipr = s.ipr := rfl
@[simp] theorem State.setBtcon_iprEpoch (s : State) (v : Byte) : (s.setBtcon v).iprEpoch = s.iprEpoch := rfl
@[simp] theorem State.setBtcon_t0cnt (s : State) (v : Byte) : (s.setBtcon v).t0cnt = s.t0cnt := rfl
@[simp] theorem State.setBtcon_t0data (s : State) (v : Byte) : (s.setBtcon v).t0data = s.t0data := rfl
@[simp] theorem State.setBtcon_t0con (s : State) (v : Byte) : (s.setBtcon v).t0con = s.t0con := rfl
@[simp] theorem State.setBtcon_btcon (s : State) (v : Byte) : (s.setBtcon v).btcon = v := rfl
@[simp] theorem State.setBtcon_clkcon (s : State) (v : Byte) : (s.setBtcon v).clkcon = s.clkcon := rfl
@[simp] theorem State.setBtcon_btcnt (s : State) (v : Byte) : (s.setBtcon v).btcnt = s.btcnt := rfl
@[simp] theorem State.setBtcon_regs (s : State) (v : Byte) : (s.setBtcon v).regs = s.regs := rfl
@[simp] theorem State.setBtcon_rom (s : State) (v : Byte) : (s.setBtcon v).rom = s.rom := rfl
@[simp] theorem State.setBtcon_data (s : State) (v : Byte) : (s.setBtcon v).data = s.data := rfl
@[simp] theorem State.setBtcon_pending (s : State) (v : Byte) : (s.setBtcon v).pending = s.pending := rfl
@[simp] theorem State.setBtcon_power (s : State) (v : Byte) : (s.setBtcon v).power = s.power := rfl
@[simp] theorem State.setBtcon_waiting (s : State) (v : Byte) : (s.setBtcon v).waiting = s.waiting := rfl
@[simp] theorem State.setBtcon_latency (s : State) (v : Byte) : (s.setBtcon v).latency = s.latency := rfl
@[simp] theorem State.setBtcon_events (s : State) (v : Byte) : (s.setBtcon v).events = s.events := rfl
@[simp] theorem State.setBtcon_env (s : State) (v : Byte) : (s.setBtcon v).env = s.env := rfl
@[simp] theorem State.setBtcon_tick (s : State) (v : Byte) : (s.setBtcon v).tick = s.tick := rfl

/-! ## `State.setClkcon` -/

@[simp] theorem State.setClkcon_launch (s : State) (v : Byte) : (s.setClkcon v).launch = s.launch := rfl
@[simp] theorem State.setClkcon_pc (s : State) (v : Byte) : (s.setClkcon v).pc = s.pc := rfl
@[simp] theorem State.setClkcon_flags (s : State) (v : Byte) : (s.setClkcon v).flags = s.flags := rfl
@[simp] theorem State.setClkcon_flagsShadow (s : State) (v : Byte) : (s.setClkcon v).flagsShadow = s.flagsShadow := rfl
@[simp] theorem State.setClkcon_rp0 (s : State) (v : Byte) : (s.setClkcon v).rp0 = s.rp0 := rfl
@[simp] theorem State.setClkcon_rp1 (s : State) (v : Byte) : (s.setClkcon v).rp1 = s.rp1 := rfl
@[simp] theorem State.setClkcon_sph (s : State) (v : Byte) : (s.setClkcon v).sph = s.sph := rfl
@[simp] theorem State.setClkcon_spl (s : State) (v : Byte) : (s.setClkcon v).spl = s.spl := rfl
@[simp] theorem State.setClkcon_iph (s : State) (v : Byte) : (s.setClkcon v).iph = s.iph := rfl
@[simp] theorem State.setClkcon_ipl (s : State) (v : Byte) : (s.setClkcon v).ipl = s.ipl := rfl
@[simp] theorem State.setClkcon_imr (s : State) (v : Byte) : (s.setClkcon v).imr = s.imr := rfl
@[simp] theorem State.setClkcon_sym (s : State) (v : Byte) : (s.setClkcon v).sym = s.sym := rfl
@[simp] theorem State.setClkcon_pp (s : State) (v : Byte) : (s.setClkcon v).pp = s.pp := rfl
@[simp] theorem State.setClkcon_ipr (s : State) (v : Byte) : (s.setClkcon v).ipr = s.ipr := rfl
@[simp] theorem State.setClkcon_iprEpoch (s : State) (v : Byte) : (s.setClkcon v).iprEpoch = s.iprEpoch := rfl
@[simp] theorem State.setClkcon_t0cnt (s : State) (v : Byte) : (s.setClkcon v).t0cnt = s.t0cnt := rfl
@[simp] theorem State.setClkcon_t0data (s : State) (v : Byte) : (s.setClkcon v).t0data = s.t0data := rfl
@[simp] theorem State.setClkcon_t0con (s : State) (v : Byte) : (s.setClkcon v).t0con = s.t0con := rfl
@[simp] theorem State.setClkcon_btcon (s : State) (v : Byte) : (s.setClkcon v).btcon = s.btcon := rfl
@[simp] theorem State.setClkcon_clkcon (s : State) (v : Byte) : (s.setClkcon v).clkcon = v := rfl
@[simp] theorem State.setClkcon_btcnt (s : State) (v : Byte) : (s.setClkcon v).btcnt = s.btcnt := rfl
@[simp] theorem State.setClkcon_regs (s : State) (v : Byte) : (s.setClkcon v).regs = s.regs := rfl
@[simp] theorem State.setClkcon_rom (s : State) (v : Byte) : (s.setClkcon v).rom = s.rom := rfl
@[simp] theorem State.setClkcon_data (s : State) (v : Byte) : (s.setClkcon v).data = s.data := rfl
@[simp] theorem State.setClkcon_pending (s : State) (v : Byte) : (s.setClkcon v).pending = s.pending := rfl
@[simp] theorem State.setClkcon_power (s : State) (v : Byte) : (s.setClkcon v).power = s.power := rfl
@[simp] theorem State.setClkcon_waiting (s : State) (v : Byte) : (s.setClkcon v).waiting = s.waiting := rfl
@[simp] theorem State.setClkcon_latency (s : State) (v : Byte) : (s.setClkcon v).latency = s.latency := rfl
@[simp] theorem State.setClkcon_events (s : State) (v : Byte) : (s.setClkcon v).events = s.events := rfl
@[simp] theorem State.setClkcon_env (s : State) (v : Byte) : (s.setClkcon v).env = s.env := rfl
@[simp] theorem State.setClkcon_tick (s : State) (v : Byte) : (s.setClkcon v).tick = s.tick := rfl

/-! ## `State.setBtcnt` -/

@[simp] theorem State.setBtcnt_launch (s : State) (v : Byte) : (s.setBtcnt v).launch = s.launch := rfl
@[simp] theorem State.setBtcnt_pc (s : State) (v : Byte) : (s.setBtcnt v).pc = s.pc := rfl
@[simp] theorem State.setBtcnt_flags (s : State) (v : Byte) : (s.setBtcnt v).flags = s.flags := rfl
@[simp] theorem State.setBtcnt_flagsShadow (s : State) (v : Byte) : (s.setBtcnt v).flagsShadow = s.flagsShadow := rfl
@[simp] theorem State.setBtcnt_rp0 (s : State) (v : Byte) : (s.setBtcnt v).rp0 = s.rp0 := rfl
@[simp] theorem State.setBtcnt_rp1 (s : State) (v : Byte) : (s.setBtcnt v).rp1 = s.rp1 := rfl
@[simp] theorem State.setBtcnt_sph (s : State) (v : Byte) : (s.setBtcnt v).sph = s.sph := rfl
@[simp] theorem State.setBtcnt_spl (s : State) (v : Byte) : (s.setBtcnt v).spl = s.spl := rfl
@[simp] theorem State.setBtcnt_iph (s : State) (v : Byte) : (s.setBtcnt v).iph = s.iph := rfl
@[simp] theorem State.setBtcnt_ipl (s : State) (v : Byte) : (s.setBtcnt v).ipl = s.ipl := rfl
@[simp] theorem State.setBtcnt_imr (s : State) (v : Byte) : (s.setBtcnt v).imr = s.imr := rfl
@[simp] theorem State.setBtcnt_sym (s : State) (v : Byte) : (s.setBtcnt v).sym = s.sym := rfl
@[simp] theorem State.setBtcnt_pp (s : State) (v : Byte) : (s.setBtcnt v).pp = s.pp := rfl
@[simp] theorem State.setBtcnt_ipr (s : State) (v : Byte) : (s.setBtcnt v).ipr = s.ipr := rfl
@[simp] theorem State.setBtcnt_iprEpoch (s : State) (v : Byte) : (s.setBtcnt v).iprEpoch = s.iprEpoch := rfl
@[simp] theorem State.setBtcnt_t0cnt (s : State) (v : Byte) : (s.setBtcnt v).t0cnt = s.t0cnt := rfl
@[simp] theorem State.setBtcnt_t0data (s : State) (v : Byte) : (s.setBtcnt v).t0data = s.t0data := rfl
@[simp] theorem State.setBtcnt_t0con (s : State) (v : Byte) : (s.setBtcnt v).t0con = s.t0con := rfl
@[simp] theorem State.setBtcnt_btcon (s : State) (v : Byte) : (s.setBtcnt v).btcon = s.btcon := rfl
@[simp] theorem State.setBtcnt_clkcon (s : State) (v : Byte) : (s.setBtcnt v).clkcon = s.clkcon := rfl
@[simp] theorem State.setBtcnt_btcnt (s : State) (v : Byte) : (s.setBtcnt v).btcnt = v := rfl
@[simp] theorem State.setBtcnt_regs (s : State) (v : Byte) : (s.setBtcnt v).regs = s.regs := rfl
@[simp] theorem State.setBtcnt_rom (s : State) (v : Byte) : (s.setBtcnt v).rom = s.rom := rfl
@[simp] theorem State.setBtcnt_data (s : State) (v : Byte) : (s.setBtcnt v).data = s.data := rfl
@[simp] theorem State.setBtcnt_pending (s : State) (v : Byte) : (s.setBtcnt v).pending = s.pending := rfl
@[simp] theorem State.setBtcnt_power (s : State) (v : Byte) : (s.setBtcnt v).power = s.power := rfl
@[simp] theorem State.setBtcnt_waiting (s : State) (v : Byte) : (s.setBtcnt v).waiting = s.waiting := rfl
@[simp] theorem State.setBtcnt_latency (s : State) (v : Byte) : (s.setBtcnt v).latency = s.latency := rfl
@[simp] theorem State.setBtcnt_events (s : State) (v : Byte) : (s.setBtcnt v).events = s.events := rfl
@[simp] theorem State.setBtcnt_env (s : State) (v : Byte) : (s.setBtcnt v).env = s.env := rfl
@[simp] theorem State.setBtcnt_tick (s : State) (v : Byte) : (s.setBtcnt v).tick = s.tick := rfl

/-! ## `State.setRegs` -/

@[simp] theorem State.setRegs_launch (s : State) (v : Memory) : (s.setRegs v).launch = s.launch := rfl
@[simp] theorem State.setRegs_pc (s : State) (v : Memory) : (s.setRegs v).pc = s.pc := rfl
@[simp] theorem State.setRegs_flags (s : State) (v : Memory) : (s.setRegs v).flags = s.flags := rfl
@[simp] theorem State.setRegs_flagsShadow (s : State) (v : Memory) : (s.setRegs v).flagsShadow = s.flagsShadow := rfl
@[simp] theorem State.setRegs_rp0 (s : State) (v : Memory) : (s.setRegs v).rp0 = s.rp0 := rfl
@[simp] theorem State.setRegs_rp1 (s : State) (v : Memory) : (s.setRegs v).rp1 = s.rp1 := rfl
@[simp] theorem State.setRegs_sph (s : State) (v : Memory) : (s.setRegs v).sph = s.sph := rfl
@[simp] theorem State.setRegs_spl (s : State) (v : Memory) : (s.setRegs v).spl = s.spl := rfl
@[simp] theorem State.setRegs_iph (s : State) (v : Memory) : (s.setRegs v).iph = s.iph := rfl
@[simp] theorem State.setRegs_ipl (s : State) (v : Memory) : (s.setRegs v).ipl = s.ipl := rfl
@[simp] theorem State.setRegs_imr (s : State) (v : Memory) : (s.setRegs v).imr = s.imr := rfl
@[simp] theorem State.setRegs_sym (s : State) (v : Memory) : (s.setRegs v).sym = s.sym := rfl
@[simp] theorem State.setRegs_pp (s : State) (v : Memory) : (s.setRegs v).pp = s.pp := rfl
@[simp] theorem State.setRegs_ipr (s : State) (v : Memory) : (s.setRegs v).ipr = s.ipr := rfl
@[simp] theorem State.setRegs_iprEpoch (s : State) (v : Memory) : (s.setRegs v).iprEpoch = s.iprEpoch := rfl
@[simp] theorem State.setRegs_t0cnt (s : State) (v : Memory) : (s.setRegs v).t0cnt = s.t0cnt := rfl
@[simp] theorem State.setRegs_t0data (s : State) (v : Memory) : (s.setRegs v).t0data = s.t0data := rfl
@[simp] theorem State.setRegs_t0con (s : State) (v : Memory) : (s.setRegs v).t0con = s.t0con := rfl
@[simp] theorem State.setRegs_btcon (s : State) (v : Memory) : (s.setRegs v).btcon = s.btcon := rfl
@[simp] theorem State.setRegs_clkcon (s : State) (v : Memory) : (s.setRegs v).clkcon = s.clkcon := rfl
@[simp] theorem State.setRegs_btcnt (s : State) (v : Memory) : (s.setRegs v).btcnt = s.btcnt := rfl
@[simp] theorem State.setRegs_regs (s : State) (v : Memory) : (s.setRegs v).regs = v := rfl
@[simp] theorem State.setRegs_rom (s : State) (v : Memory) : (s.setRegs v).rom = s.rom := rfl
@[simp] theorem State.setRegs_data (s : State) (v : Memory) : (s.setRegs v).data = s.data := rfl
@[simp] theorem State.setRegs_pending (s : State) (v : Memory) : (s.setRegs v).pending = s.pending := rfl
@[simp] theorem State.setRegs_power (s : State) (v : Memory) : (s.setRegs v).power = s.power := rfl
@[simp] theorem State.setRegs_waiting (s : State) (v : Memory) : (s.setRegs v).waiting = s.waiting := rfl
@[simp] theorem State.setRegs_latency (s : State) (v : Memory) : (s.setRegs v).latency = s.latency := rfl
@[simp] theorem State.setRegs_events (s : State) (v : Memory) : (s.setRegs v).events = s.events := rfl
@[simp] theorem State.setRegs_env (s : State) (v : Memory) : (s.setRegs v).env = s.env := rfl
@[simp] theorem State.setRegs_tick (s : State) (v : Memory) : (s.setRegs v).tick = s.tick := rfl

/-! ## `State.setRom` -/

@[simp] theorem State.setRom_launch (s : State) (v : Memory) : (s.setRom v).launch = s.launch := rfl
@[simp] theorem State.setRom_pc (s : State) (v : Memory) : (s.setRom v).pc = s.pc := rfl
@[simp] theorem State.setRom_flags (s : State) (v : Memory) : (s.setRom v).flags = s.flags := rfl
@[simp] theorem State.setRom_flagsShadow (s : State) (v : Memory) : (s.setRom v).flagsShadow = s.flagsShadow := rfl
@[simp] theorem State.setRom_rp0 (s : State) (v : Memory) : (s.setRom v).rp0 = s.rp0 := rfl
@[simp] theorem State.setRom_rp1 (s : State) (v : Memory) : (s.setRom v).rp1 = s.rp1 := rfl
@[simp] theorem State.setRom_sph (s : State) (v : Memory) : (s.setRom v).sph = s.sph := rfl
@[simp] theorem State.setRom_spl (s : State) (v : Memory) : (s.setRom v).spl = s.spl := rfl
@[simp] theorem State.setRom_iph (s : State) (v : Memory) : (s.setRom v).iph = s.iph := rfl
@[simp] theorem State.setRom_ipl (s : State) (v : Memory) : (s.setRom v).ipl = s.ipl := rfl
@[simp] theorem State.setRom_imr (s : State) (v : Memory) : (s.setRom v).imr = s.imr := rfl
@[simp] theorem State.setRom_sym (s : State) (v : Memory) : (s.setRom v).sym = s.sym := rfl
@[simp] theorem State.setRom_pp (s : State) (v : Memory) : (s.setRom v).pp = s.pp := rfl
@[simp] theorem State.setRom_ipr (s : State) (v : Memory) : (s.setRom v).ipr = s.ipr := rfl
@[simp] theorem State.setRom_iprEpoch (s : State) (v : Memory) : (s.setRom v).iprEpoch = s.iprEpoch := rfl
@[simp] theorem State.setRom_t0cnt (s : State) (v : Memory) : (s.setRom v).t0cnt = s.t0cnt := rfl
@[simp] theorem State.setRom_t0data (s : State) (v : Memory) : (s.setRom v).t0data = s.t0data := rfl
@[simp] theorem State.setRom_t0con (s : State) (v : Memory) : (s.setRom v).t0con = s.t0con := rfl
@[simp] theorem State.setRom_btcon (s : State) (v : Memory) : (s.setRom v).btcon = s.btcon := rfl
@[simp] theorem State.setRom_clkcon (s : State) (v : Memory) : (s.setRom v).clkcon = s.clkcon := rfl
@[simp] theorem State.setRom_btcnt (s : State) (v : Memory) : (s.setRom v).btcnt = s.btcnt := rfl
@[simp] theorem State.setRom_regs (s : State) (v : Memory) : (s.setRom v).regs = s.regs := rfl
@[simp] theorem State.setRom_rom (s : State) (v : Memory) : (s.setRom v).rom = v := rfl
@[simp] theorem State.setRom_data (s : State) (v : Memory) : (s.setRom v).data = s.data := rfl
@[simp] theorem State.setRom_pending (s : State) (v : Memory) : (s.setRom v).pending = s.pending := rfl
@[simp] theorem State.setRom_power (s : State) (v : Memory) : (s.setRom v).power = s.power := rfl
@[simp] theorem State.setRom_waiting (s : State) (v : Memory) : (s.setRom v).waiting = s.waiting := rfl
@[simp] theorem State.setRom_latency (s : State) (v : Memory) : (s.setRom v).latency = s.latency := rfl
@[simp] theorem State.setRom_events (s : State) (v : Memory) : (s.setRom v).events = s.events := rfl
@[simp] theorem State.setRom_env (s : State) (v : Memory) : (s.setRom v).env = s.env := rfl
@[simp] theorem State.setRom_tick (s : State) (v : Memory) : (s.setRom v).tick = s.tick := rfl

/-! ## `State.setData` -/

@[simp] theorem State.setData_launch (s : State) (v : Memory) : (s.setData v).launch = s.launch := rfl
@[simp] theorem State.setData_pc (s : State) (v : Memory) : (s.setData v).pc = s.pc := rfl
@[simp] theorem State.setData_flags (s : State) (v : Memory) : (s.setData v).flags = s.flags := rfl
@[simp] theorem State.setData_flagsShadow (s : State) (v : Memory) : (s.setData v).flagsShadow = s.flagsShadow := rfl
@[simp] theorem State.setData_rp0 (s : State) (v : Memory) : (s.setData v).rp0 = s.rp0 := rfl
@[simp] theorem State.setData_rp1 (s : State) (v : Memory) : (s.setData v).rp1 = s.rp1 := rfl
@[simp] theorem State.setData_sph (s : State) (v : Memory) : (s.setData v).sph = s.sph := rfl
@[simp] theorem State.setData_spl (s : State) (v : Memory) : (s.setData v).spl = s.spl := rfl
@[simp] theorem State.setData_iph (s : State) (v : Memory) : (s.setData v).iph = s.iph := rfl
@[simp] theorem State.setData_ipl (s : State) (v : Memory) : (s.setData v).ipl = s.ipl := rfl
@[simp] theorem State.setData_imr (s : State) (v : Memory) : (s.setData v).imr = s.imr := rfl
@[simp] theorem State.setData_sym (s : State) (v : Memory) : (s.setData v).sym = s.sym := rfl
@[simp] theorem State.setData_pp (s : State) (v : Memory) : (s.setData v).pp = s.pp := rfl
@[simp] theorem State.setData_ipr (s : State) (v : Memory) : (s.setData v).ipr = s.ipr := rfl
@[simp] theorem State.setData_iprEpoch (s : State) (v : Memory) : (s.setData v).iprEpoch = s.iprEpoch := rfl
@[simp] theorem State.setData_t0cnt (s : State) (v : Memory) : (s.setData v).t0cnt = s.t0cnt := rfl
@[simp] theorem State.setData_t0data (s : State) (v : Memory) : (s.setData v).t0data = s.t0data := rfl
@[simp] theorem State.setData_t0con (s : State) (v : Memory) : (s.setData v).t0con = s.t0con := rfl
@[simp] theorem State.setData_btcon (s : State) (v : Memory) : (s.setData v).btcon = s.btcon := rfl
@[simp] theorem State.setData_clkcon (s : State) (v : Memory) : (s.setData v).clkcon = s.clkcon := rfl
@[simp] theorem State.setData_btcnt (s : State) (v : Memory) : (s.setData v).btcnt = s.btcnt := rfl
@[simp] theorem State.setData_regs (s : State) (v : Memory) : (s.setData v).regs = s.regs := rfl
@[simp] theorem State.setData_rom (s : State) (v : Memory) : (s.setData v).rom = s.rom := rfl
@[simp] theorem State.setData_data (s : State) (v : Memory) : (s.setData v).data = v := rfl
@[simp] theorem State.setData_pending (s : State) (v : Memory) : (s.setData v).pending = s.pending := rfl
@[simp] theorem State.setData_power (s : State) (v : Memory) : (s.setData v).power = s.power := rfl
@[simp] theorem State.setData_waiting (s : State) (v : Memory) : (s.setData v).waiting = s.waiting := rfl
@[simp] theorem State.setData_latency (s : State) (v : Memory) : (s.setData v).latency = s.latency := rfl
@[simp] theorem State.setData_events (s : State) (v : Memory) : (s.setData v).events = s.events := rfl
@[simp] theorem State.setData_env (s : State) (v : Memory) : (s.setData v).env = s.env := rfl
@[simp] theorem State.setData_tick (s : State) (v : Memory) : (s.setData v).tick = s.tick := rfl

/-! ## `State.setPending` -/

@[simp] theorem State.setPending_launch (s : State) (v : BitVec 22) : (s.setPending v).launch = s.launch := rfl
@[simp] theorem State.setPending_pc (s : State) (v : BitVec 22) : (s.setPending v).pc = s.pc := rfl
@[simp] theorem State.setPending_flags (s : State) (v : BitVec 22) : (s.setPending v).flags = s.flags := rfl
@[simp] theorem State.setPending_flagsShadow (s : State) (v : BitVec 22) : (s.setPending v).flagsShadow = s.flagsShadow := rfl
@[simp] theorem State.setPending_rp0 (s : State) (v : BitVec 22) : (s.setPending v).rp0 = s.rp0 := rfl
@[simp] theorem State.setPending_rp1 (s : State) (v : BitVec 22) : (s.setPending v).rp1 = s.rp1 := rfl
@[simp] theorem State.setPending_sph (s : State) (v : BitVec 22) : (s.setPending v).sph = s.sph := rfl
@[simp] theorem State.setPending_spl (s : State) (v : BitVec 22) : (s.setPending v).spl = s.spl := rfl
@[simp] theorem State.setPending_iph (s : State) (v : BitVec 22) : (s.setPending v).iph = s.iph := rfl
@[simp] theorem State.setPending_ipl (s : State) (v : BitVec 22) : (s.setPending v).ipl = s.ipl := rfl
@[simp] theorem State.setPending_imr (s : State) (v : BitVec 22) : (s.setPending v).imr = s.imr := rfl
@[simp] theorem State.setPending_sym (s : State) (v : BitVec 22) : (s.setPending v).sym = s.sym := rfl
@[simp] theorem State.setPending_pp (s : State) (v : BitVec 22) : (s.setPending v).pp = s.pp := rfl
@[simp] theorem State.setPending_ipr (s : State) (v : BitVec 22) : (s.setPending v).ipr = s.ipr := rfl
@[simp] theorem State.setPending_iprEpoch (s : State) (v : BitVec 22) : (s.setPending v).iprEpoch = s.iprEpoch := rfl
@[simp] theorem State.setPending_t0cnt (s : State) (v : BitVec 22) : (s.setPending v).t0cnt = s.t0cnt := rfl
@[simp] theorem State.setPending_t0data (s : State) (v : BitVec 22) : (s.setPending v).t0data = s.t0data := rfl
@[simp] theorem State.setPending_t0con (s : State) (v : BitVec 22) : (s.setPending v).t0con = s.t0con := rfl
@[simp] theorem State.setPending_btcon (s : State) (v : BitVec 22) : (s.setPending v).btcon = s.btcon := rfl
@[simp] theorem State.setPending_clkcon (s : State) (v : BitVec 22) : (s.setPending v).clkcon = s.clkcon := rfl
@[simp] theorem State.setPending_btcnt (s : State) (v : BitVec 22) : (s.setPending v).btcnt = s.btcnt := rfl
@[simp] theorem State.setPending_regs (s : State) (v : BitVec 22) : (s.setPending v).regs = s.regs := rfl
@[simp] theorem State.setPending_rom (s : State) (v : BitVec 22) : (s.setPending v).rom = s.rom := rfl
@[simp] theorem State.setPending_data (s : State) (v : BitVec 22) : (s.setPending v).data = s.data := rfl
@[simp] theorem State.setPending_pending (s : State) (v : BitVec 22) : (s.setPending v).pending = v := rfl
@[simp] theorem State.setPending_power (s : State) (v : BitVec 22) : (s.setPending v).power = s.power := rfl
@[simp] theorem State.setPending_waiting (s : State) (v : BitVec 22) : (s.setPending v).waiting = s.waiting := rfl
@[simp] theorem State.setPending_latency (s : State) (v : BitVec 22) : (s.setPending v).latency = s.latency := rfl
@[simp] theorem State.setPending_events (s : State) (v : BitVec 22) : (s.setPending v).events = s.events := rfl
@[simp] theorem State.setPending_env (s : State) (v : BitVec 22) : (s.setPending v).env = s.env := rfl
@[simp] theorem State.setPending_tick (s : State) (v : BitVec 22) : (s.setPending v).tick = s.tick := rfl

/-! ## `State.setPower` -/

@[simp] theorem State.setPower_launch (s : State) (v : PowerMode) : (s.setPower v).launch = s.launch := rfl
@[simp] theorem State.setPower_pc (s : State) (v : PowerMode) : (s.setPower v).pc = s.pc := rfl
@[simp] theorem State.setPower_flags (s : State) (v : PowerMode) : (s.setPower v).flags = s.flags := rfl
@[simp] theorem State.setPower_flagsShadow (s : State) (v : PowerMode) : (s.setPower v).flagsShadow = s.flagsShadow := rfl
@[simp] theorem State.setPower_rp0 (s : State) (v : PowerMode) : (s.setPower v).rp0 = s.rp0 := rfl
@[simp] theorem State.setPower_rp1 (s : State) (v : PowerMode) : (s.setPower v).rp1 = s.rp1 := rfl
@[simp] theorem State.setPower_sph (s : State) (v : PowerMode) : (s.setPower v).sph = s.sph := rfl
@[simp] theorem State.setPower_spl (s : State) (v : PowerMode) : (s.setPower v).spl = s.spl := rfl
@[simp] theorem State.setPower_iph (s : State) (v : PowerMode) : (s.setPower v).iph = s.iph := rfl
@[simp] theorem State.setPower_ipl (s : State) (v : PowerMode) : (s.setPower v).ipl = s.ipl := rfl
@[simp] theorem State.setPower_imr (s : State) (v : PowerMode) : (s.setPower v).imr = s.imr := rfl
@[simp] theorem State.setPower_sym (s : State) (v : PowerMode) : (s.setPower v).sym = s.sym := rfl
@[simp] theorem State.setPower_pp (s : State) (v : PowerMode) : (s.setPower v).pp = s.pp := rfl
@[simp] theorem State.setPower_ipr (s : State) (v : PowerMode) : (s.setPower v).ipr = s.ipr := rfl
@[simp] theorem State.setPower_iprEpoch (s : State) (v : PowerMode) : (s.setPower v).iprEpoch = s.iprEpoch := rfl
@[simp] theorem State.setPower_t0cnt (s : State) (v : PowerMode) : (s.setPower v).t0cnt = s.t0cnt := rfl
@[simp] theorem State.setPower_t0data (s : State) (v : PowerMode) : (s.setPower v).t0data = s.t0data := rfl
@[simp] theorem State.setPower_t0con (s : State) (v : PowerMode) : (s.setPower v).t0con = s.t0con := rfl
@[simp] theorem State.setPower_btcon (s : State) (v : PowerMode) : (s.setPower v).btcon = s.btcon := rfl
@[simp] theorem State.setPower_clkcon (s : State) (v : PowerMode) : (s.setPower v).clkcon = s.clkcon := rfl
@[simp] theorem State.setPower_btcnt (s : State) (v : PowerMode) : (s.setPower v).btcnt = s.btcnt := rfl
@[simp] theorem State.setPower_regs (s : State) (v : PowerMode) : (s.setPower v).regs = s.regs := rfl
@[simp] theorem State.setPower_rom (s : State) (v : PowerMode) : (s.setPower v).rom = s.rom := rfl
@[simp] theorem State.setPower_data (s : State) (v : PowerMode) : (s.setPower v).data = s.data := rfl
@[simp] theorem State.setPower_pending (s : State) (v : PowerMode) : (s.setPower v).pending = s.pending := rfl
@[simp] theorem State.setPower_power (s : State) (v : PowerMode) : (s.setPower v).power = v := rfl
@[simp] theorem State.setPower_waiting (s : State) (v : PowerMode) : (s.setPower v).waiting = s.waiting := rfl
@[simp] theorem State.setPower_latency (s : State) (v : PowerMode) : (s.setPower v).latency = s.latency := rfl
@[simp] theorem State.setPower_events (s : State) (v : PowerMode) : (s.setPower v).events = s.events := rfl
@[simp] theorem State.setPower_env (s : State) (v : PowerMode) : (s.setPower v).env = s.env := rfl
@[simp] theorem State.setPower_tick (s : State) (v : PowerMode) : (s.setPower v).tick = s.tick := rfl

/-! ## `State.setWaiting` -/

@[simp] theorem State.setWaiting_launch (s : State) (v : Bool) : (s.setWaiting v).launch = s.launch := rfl
@[simp] theorem State.setWaiting_pc (s : State) (v : Bool) : (s.setWaiting v).pc = s.pc := rfl
@[simp] theorem State.setWaiting_flags (s : State) (v : Bool) : (s.setWaiting v).flags = s.flags := rfl
@[simp] theorem State.setWaiting_flagsShadow (s : State) (v : Bool) : (s.setWaiting v).flagsShadow = s.flagsShadow := rfl
@[simp] theorem State.setWaiting_rp0 (s : State) (v : Bool) : (s.setWaiting v).rp0 = s.rp0 := rfl
@[simp] theorem State.setWaiting_rp1 (s : State) (v : Bool) : (s.setWaiting v).rp1 = s.rp1 := rfl
@[simp] theorem State.setWaiting_sph (s : State) (v : Bool) : (s.setWaiting v).sph = s.sph := rfl
@[simp] theorem State.setWaiting_spl (s : State) (v : Bool) : (s.setWaiting v).spl = s.spl := rfl
@[simp] theorem State.setWaiting_iph (s : State) (v : Bool) : (s.setWaiting v).iph = s.iph := rfl
@[simp] theorem State.setWaiting_ipl (s : State) (v : Bool) : (s.setWaiting v).ipl = s.ipl := rfl
@[simp] theorem State.setWaiting_imr (s : State) (v : Bool) : (s.setWaiting v).imr = s.imr := rfl
@[simp] theorem State.setWaiting_sym (s : State) (v : Bool) : (s.setWaiting v).sym = s.sym := rfl
@[simp] theorem State.setWaiting_pp (s : State) (v : Bool) : (s.setWaiting v).pp = s.pp := rfl
@[simp] theorem State.setWaiting_ipr (s : State) (v : Bool) : (s.setWaiting v).ipr = s.ipr := rfl
@[simp] theorem State.setWaiting_iprEpoch (s : State) (v : Bool) : (s.setWaiting v).iprEpoch = s.iprEpoch := rfl
@[simp] theorem State.setWaiting_t0cnt (s : State) (v : Bool) : (s.setWaiting v).t0cnt = s.t0cnt := rfl
@[simp] theorem State.setWaiting_t0data (s : State) (v : Bool) : (s.setWaiting v).t0data = s.t0data := rfl
@[simp] theorem State.setWaiting_t0con (s : State) (v : Bool) : (s.setWaiting v).t0con = s.t0con := rfl
@[simp] theorem State.setWaiting_btcon (s : State) (v : Bool) : (s.setWaiting v).btcon = s.btcon := rfl
@[simp] theorem State.setWaiting_clkcon (s : State) (v : Bool) : (s.setWaiting v).clkcon = s.clkcon := rfl
@[simp] theorem State.setWaiting_btcnt (s : State) (v : Bool) : (s.setWaiting v).btcnt = s.btcnt := rfl
@[simp] theorem State.setWaiting_regs (s : State) (v : Bool) : (s.setWaiting v).regs = s.regs := rfl
@[simp] theorem State.setWaiting_rom (s : State) (v : Bool) : (s.setWaiting v).rom = s.rom := rfl
@[simp] theorem State.setWaiting_data (s : State) (v : Bool) : (s.setWaiting v).data = s.data := rfl
@[simp] theorem State.setWaiting_pending (s : State) (v : Bool) : (s.setWaiting v).pending = s.pending := rfl
@[simp] theorem State.setWaiting_power (s : State) (v : Bool) : (s.setWaiting v).power = s.power := rfl
@[simp] theorem State.setWaiting_waiting (s : State) (v : Bool) : (s.setWaiting v).waiting = v := rfl
@[simp] theorem State.setWaiting_latency (s : State) (v : Bool) : (s.setWaiting v).latency = s.latency := rfl
@[simp] theorem State.setWaiting_events (s : State) (v : Bool) : (s.setWaiting v).events = s.events := rfl
@[simp] theorem State.setWaiting_env (s : State) (v : Bool) : (s.setWaiting v).env = s.env := rfl
@[simp] theorem State.setWaiting_tick (s : State) (v : Bool) : (s.setWaiting v).tick = s.tick := rfl

/-! ## `State.setLatency` -/

@[simp] theorem State.setLatency_launch (s : State) (v : Bool) : (s.setLatency v).launch = s.launch := rfl
@[simp] theorem State.setLatency_pc (s : State) (v : Bool) : (s.setLatency v).pc = s.pc := rfl
@[simp] theorem State.setLatency_flags (s : State) (v : Bool) : (s.setLatency v).flags = s.flags := rfl
@[simp] theorem State.setLatency_flagsShadow (s : State) (v : Bool) : (s.setLatency v).flagsShadow = s.flagsShadow := rfl
@[simp] theorem State.setLatency_rp0 (s : State) (v : Bool) : (s.setLatency v).rp0 = s.rp0 := rfl
@[simp] theorem State.setLatency_rp1 (s : State) (v : Bool) : (s.setLatency v).rp1 = s.rp1 := rfl
@[simp] theorem State.setLatency_sph (s : State) (v : Bool) : (s.setLatency v).sph = s.sph := rfl
@[simp] theorem State.setLatency_spl (s : State) (v : Bool) : (s.setLatency v).spl = s.spl := rfl
@[simp] theorem State.setLatency_iph (s : State) (v : Bool) : (s.setLatency v).iph = s.iph := rfl
@[simp] theorem State.setLatency_ipl (s : State) (v : Bool) : (s.setLatency v).ipl = s.ipl := rfl
@[simp] theorem State.setLatency_imr (s : State) (v : Bool) : (s.setLatency v).imr = s.imr := rfl
@[simp] theorem State.setLatency_sym (s : State) (v : Bool) : (s.setLatency v).sym = s.sym := rfl
@[simp] theorem State.setLatency_pp (s : State) (v : Bool) : (s.setLatency v).pp = s.pp := rfl
@[simp] theorem State.setLatency_ipr (s : State) (v : Bool) : (s.setLatency v).ipr = s.ipr := rfl
@[simp] theorem State.setLatency_iprEpoch (s : State) (v : Bool) : (s.setLatency v).iprEpoch = s.iprEpoch := rfl
@[simp] theorem State.setLatency_t0cnt (s : State) (v : Bool) : (s.setLatency v).t0cnt = s.t0cnt := rfl
@[simp] theorem State.setLatency_t0data (s : State) (v : Bool) : (s.setLatency v).t0data = s.t0data := rfl
@[simp] theorem State.setLatency_t0con (s : State) (v : Bool) : (s.setLatency v).t0con = s.t0con := rfl
@[simp] theorem State.setLatency_btcon (s : State) (v : Bool) : (s.setLatency v).btcon = s.btcon := rfl
@[simp] theorem State.setLatency_clkcon (s : State) (v : Bool) : (s.setLatency v).clkcon = s.clkcon := rfl
@[simp] theorem State.setLatency_btcnt (s : State) (v : Bool) : (s.setLatency v).btcnt = s.btcnt := rfl
@[simp] theorem State.setLatency_regs (s : State) (v : Bool) : (s.setLatency v).regs = s.regs := rfl
@[simp] theorem State.setLatency_rom (s : State) (v : Bool) : (s.setLatency v).rom = s.rom := rfl
@[simp] theorem State.setLatency_data (s : State) (v : Bool) : (s.setLatency v).data = s.data := rfl
@[simp] theorem State.setLatency_pending (s : State) (v : Bool) : (s.setLatency v).pending = s.pending := rfl
@[simp] theorem State.setLatency_power (s : State) (v : Bool) : (s.setLatency v).power = s.power := rfl
@[simp] theorem State.setLatency_waiting (s : State) (v : Bool) : (s.setLatency v).waiting = s.waiting := rfl
@[simp] theorem State.setLatency_latency (s : State) (v : Bool) : (s.setLatency v).latency = v := rfl
@[simp] theorem State.setLatency_events (s : State) (v : Bool) : (s.setLatency v).events = s.events := rfl
@[simp] theorem State.setLatency_env (s : State) (v : Bool) : (s.setLatency v).env = s.env := rfl
@[simp] theorem State.setLatency_tick (s : State) (v : Bool) : (s.setLatency v).tick = s.tick := rfl

/-! ## `State.setEvents` -/

@[simp] theorem State.setEvents_launch (s : State) (v : List PeriphWrite) : (s.setEvents v).launch = s.launch := rfl
@[simp] theorem State.setEvents_pc (s : State) (v : List PeriphWrite) : (s.setEvents v).pc = s.pc := rfl
@[simp] theorem State.setEvents_flags (s : State) (v : List PeriphWrite) : (s.setEvents v).flags = s.flags := rfl
@[simp] theorem State.setEvents_flagsShadow (s : State) (v : List PeriphWrite) : (s.setEvents v).flagsShadow = s.flagsShadow := rfl
@[simp] theorem State.setEvents_rp0 (s : State) (v : List PeriphWrite) : (s.setEvents v).rp0 = s.rp0 := rfl
@[simp] theorem State.setEvents_rp1 (s : State) (v : List PeriphWrite) : (s.setEvents v).rp1 = s.rp1 := rfl
@[simp] theorem State.setEvents_sph (s : State) (v : List PeriphWrite) : (s.setEvents v).sph = s.sph := rfl
@[simp] theorem State.setEvents_spl (s : State) (v : List PeriphWrite) : (s.setEvents v).spl = s.spl := rfl
@[simp] theorem State.setEvents_iph (s : State) (v : List PeriphWrite) : (s.setEvents v).iph = s.iph := rfl
@[simp] theorem State.setEvents_ipl (s : State) (v : List PeriphWrite) : (s.setEvents v).ipl = s.ipl := rfl
@[simp] theorem State.setEvents_imr (s : State) (v : List PeriphWrite) : (s.setEvents v).imr = s.imr := rfl
@[simp] theorem State.setEvents_sym (s : State) (v : List PeriphWrite) : (s.setEvents v).sym = s.sym := rfl
@[simp] theorem State.setEvents_pp (s : State) (v : List PeriphWrite) : (s.setEvents v).pp = s.pp := rfl
@[simp] theorem State.setEvents_ipr (s : State) (v : List PeriphWrite) : (s.setEvents v).ipr = s.ipr := rfl
@[simp] theorem State.setEvents_iprEpoch (s : State) (v : List PeriphWrite) : (s.setEvents v).iprEpoch = s.iprEpoch := rfl
@[simp] theorem State.setEvents_t0cnt (s : State) (v : List PeriphWrite) : (s.setEvents v).t0cnt = s.t0cnt := rfl
@[simp] theorem State.setEvents_t0data (s : State) (v : List PeriphWrite) : (s.setEvents v).t0data = s.t0data := rfl
@[simp] theorem State.setEvents_t0con (s : State) (v : List PeriphWrite) : (s.setEvents v).t0con = s.t0con := rfl
@[simp] theorem State.setEvents_btcon (s : State) (v : List PeriphWrite) : (s.setEvents v).btcon = s.btcon := rfl
@[simp] theorem State.setEvents_clkcon (s : State) (v : List PeriphWrite) : (s.setEvents v).clkcon = s.clkcon := rfl
@[simp] theorem State.setEvents_btcnt (s : State) (v : List PeriphWrite) : (s.setEvents v).btcnt = s.btcnt := rfl
@[simp] theorem State.setEvents_regs (s : State) (v : List PeriphWrite) : (s.setEvents v).regs = s.regs := rfl
@[simp] theorem State.setEvents_rom (s : State) (v : List PeriphWrite) : (s.setEvents v).rom = s.rom := rfl
@[simp] theorem State.setEvents_data (s : State) (v : List PeriphWrite) : (s.setEvents v).data = s.data := rfl
@[simp] theorem State.setEvents_pending (s : State) (v : List PeriphWrite) : (s.setEvents v).pending = s.pending := rfl
@[simp] theorem State.setEvents_power (s : State) (v : List PeriphWrite) : (s.setEvents v).power = s.power := rfl
@[simp] theorem State.setEvents_waiting (s : State) (v : List PeriphWrite) : (s.setEvents v).waiting = s.waiting := rfl
@[simp] theorem State.setEvents_latency (s : State) (v : List PeriphWrite) : (s.setEvents v).latency = s.latency := rfl
@[simp] theorem State.setEvents_events (s : State) (v : List PeriphWrite) : (s.setEvents v).events = v := rfl
@[simp] theorem State.setEvents_env (s : State) (v : List PeriphWrite) : (s.setEvents v).env = s.env := rfl
@[simp] theorem State.setEvents_tick (s : State) (v : List PeriphWrite) : (s.setEvents v).tick = s.tick := rfl

/-! ## `State.setEnv` -/

@[simp] theorem State.setEnv_launch (s : State) (v : List (List EnvEvent)) : (s.setEnv v).launch = s.launch := rfl
@[simp] theorem State.setEnv_pc (s : State) (v : List (List EnvEvent)) : (s.setEnv v).pc = s.pc := rfl
@[simp] theorem State.setEnv_flags (s : State) (v : List (List EnvEvent)) : (s.setEnv v).flags = s.flags := rfl
@[simp] theorem State.setEnv_flagsShadow (s : State) (v : List (List EnvEvent)) : (s.setEnv v).flagsShadow = s.flagsShadow := rfl
@[simp] theorem State.setEnv_rp0 (s : State) (v : List (List EnvEvent)) : (s.setEnv v).rp0 = s.rp0 := rfl
@[simp] theorem State.setEnv_rp1 (s : State) (v : List (List EnvEvent)) : (s.setEnv v).rp1 = s.rp1 := rfl
@[simp] theorem State.setEnv_sph (s : State) (v : List (List EnvEvent)) : (s.setEnv v).sph = s.sph := rfl
@[simp] theorem State.setEnv_spl (s : State) (v : List (List EnvEvent)) : (s.setEnv v).spl = s.spl := rfl
@[simp] theorem State.setEnv_iph (s : State) (v : List (List EnvEvent)) : (s.setEnv v).iph = s.iph := rfl
@[simp] theorem State.setEnv_ipl (s : State) (v : List (List EnvEvent)) : (s.setEnv v).ipl = s.ipl := rfl
@[simp] theorem State.setEnv_imr (s : State) (v : List (List EnvEvent)) : (s.setEnv v).imr = s.imr := rfl
@[simp] theorem State.setEnv_sym (s : State) (v : List (List EnvEvent)) : (s.setEnv v).sym = s.sym := rfl
@[simp] theorem State.setEnv_pp (s : State) (v : List (List EnvEvent)) : (s.setEnv v).pp = s.pp := rfl
@[simp] theorem State.setEnv_ipr (s : State) (v : List (List EnvEvent)) : (s.setEnv v).ipr = s.ipr := rfl
@[simp] theorem State.setEnv_iprEpoch (s : State) (v : List (List EnvEvent)) : (s.setEnv v).iprEpoch = s.iprEpoch := rfl
@[simp] theorem State.setEnv_t0cnt (s : State) (v : List (List EnvEvent)) : (s.setEnv v).t0cnt = s.t0cnt := rfl
@[simp] theorem State.setEnv_t0data (s : State) (v : List (List EnvEvent)) : (s.setEnv v).t0data = s.t0data := rfl
@[simp] theorem State.setEnv_t0con (s : State) (v : List (List EnvEvent)) : (s.setEnv v).t0con = s.t0con := rfl
@[simp] theorem State.setEnv_btcon (s : State) (v : List (List EnvEvent)) : (s.setEnv v).btcon = s.btcon := rfl
@[simp] theorem State.setEnv_clkcon (s : State) (v : List (List EnvEvent)) : (s.setEnv v).clkcon = s.clkcon := rfl
@[simp] theorem State.setEnv_btcnt (s : State) (v : List (List EnvEvent)) : (s.setEnv v).btcnt = s.btcnt := rfl
@[simp] theorem State.setEnv_regs (s : State) (v : List (List EnvEvent)) : (s.setEnv v).regs = s.regs := rfl
@[simp] theorem State.setEnv_rom (s : State) (v : List (List EnvEvent)) : (s.setEnv v).rom = s.rom := rfl
@[simp] theorem State.setEnv_data (s : State) (v : List (List EnvEvent)) : (s.setEnv v).data = s.data := rfl
@[simp] theorem State.setEnv_pending (s : State) (v : List (List EnvEvent)) : (s.setEnv v).pending = s.pending := rfl
@[simp] theorem State.setEnv_power (s : State) (v : List (List EnvEvent)) : (s.setEnv v).power = s.power := rfl
@[simp] theorem State.setEnv_waiting (s : State) (v : List (List EnvEvent)) : (s.setEnv v).waiting = s.waiting := rfl
@[simp] theorem State.setEnv_latency (s : State) (v : List (List EnvEvent)) : (s.setEnv v).latency = s.latency := rfl
@[simp] theorem State.setEnv_events (s : State) (v : List (List EnvEvent)) : (s.setEnv v).events = s.events := rfl
@[simp] theorem State.setEnv_env (s : State) (v : List (List EnvEvent)) : (s.setEnv v).env = v := rfl
@[simp] theorem State.setEnv_tick (s : State) (v : List (List EnvEvent)) : (s.setEnv v).tick = s.tick := rfl

/-! ## `State.setTick` -/

@[simp] theorem State.setTick_launch (s : State) (v : Nat) : (s.setTick v).launch = s.launch := rfl
@[simp] theorem State.setTick_pc (s : State) (v : Nat) : (s.setTick v).pc = s.pc := rfl
@[simp] theorem State.setTick_flags (s : State) (v : Nat) : (s.setTick v).flags = s.flags := rfl
@[simp] theorem State.setTick_flagsShadow (s : State) (v : Nat) : (s.setTick v).flagsShadow = s.flagsShadow := rfl
@[simp] theorem State.setTick_rp0 (s : State) (v : Nat) : (s.setTick v).rp0 = s.rp0 := rfl
@[simp] theorem State.setTick_rp1 (s : State) (v : Nat) : (s.setTick v).rp1 = s.rp1 := rfl
@[simp] theorem State.setTick_sph (s : State) (v : Nat) : (s.setTick v).sph = s.sph := rfl
@[simp] theorem State.setTick_spl (s : State) (v : Nat) : (s.setTick v).spl = s.spl := rfl
@[simp] theorem State.setTick_iph (s : State) (v : Nat) : (s.setTick v).iph = s.iph := rfl
@[simp] theorem State.setTick_ipl (s : State) (v : Nat) : (s.setTick v).ipl = s.ipl := rfl
@[simp] theorem State.setTick_imr (s : State) (v : Nat) : (s.setTick v).imr = s.imr := rfl
@[simp] theorem State.setTick_sym (s : State) (v : Nat) : (s.setTick v).sym = s.sym := rfl
@[simp] theorem State.setTick_pp (s : State) (v : Nat) : (s.setTick v).pp = s.pp := rfl
@[simp] theorem State.setTick_ipr (s : State) (v : Nat) : (s.setTick v).ipr = s.ipr := rfl
@[simp] theorem State.setTick_iprEpoch (s : State) (v : Nat) : (s.setTick v).iprEpoch = s.iprEpoch := rfl
@[simp] theorem State.setTick_t0cnt (s : State) (v : Nat) : (s.setTick v).t0cnt = s.t0cnt := rfl
@[simp] theorem State.setTick_t0data (s : State) (v : Nat) : (s.setTick v).t0data = s.t0data := rfl
@[simp] theorem State.setTick_t0con (s : State) (v : Nat) : (s.setTick v).t0con = s.t0con := rfl
@[simp] theorem State.setTick_btcon (s : State) (v : Nat) : (s.setTick v).btcon = s.btcon := rfl
@[simp] theorem State.setTick_clkcon (s : State) (v : Nat) : (s.setTick v).clkcon = s.clkcon := rfl
@[simp] theorem State.setTick_btcnt (s : State) (v : Nat) : (s.setTick v).btcnt = s.btcnt := rfl
@[simp] theorem State.setTick_regs (s : State) (v : Nat) : (s.setTick v).regs = s.regs := rfl
@[simp] theorem State.setTick_rom (s : State) (v : Nat) : (s.setTick v).rom = s.rom := rfl
@[simp] theorem State.setTick_data (s : State) (v : Nat) : (s.setTick v).data = s.data := rfl
@[simp] theorem State.setTick_pending (s : State) (v : Nat) : (s.setTick v).pending = s.pending := rfl
@[simp] theorem State.setTick_power (s : State) (v : Nat) : (s.setTick v).power = s.power := rfl
@[simp] theorem State.setTick_waiting (s : State) (v : Nat) : (s.setTick v).waiting = s.waiting := rfl
@[simp] theorem State.setTick_latency (s : State) (v : Nat) : (s.setTick v).latency = s.latency := rfl
@[simp] theorem State.setTick_events (s : State) (v : Nat) : (s.setTick v).events = s.events := rfl
@[simp] theorem State.setTick_env (s : State) (v : Nat) : (s.setTick v).env = s.env := rfl
@[simp] theorem State.setTick_tick (s : State) (v : Nat) : (s.setTick v).tick = v := rfl

end Sys2Proof.Machine
end

