-- ==== Sys2Proof/Laws/Ops.lean ====
section
/-! SUPPORT. One lemma per shared operation that says what it can do: single bits, the flags, reading and writing a place, program and data
memory, the stack. -/

namespace Sys2Proof.Machine

/-! ## Bits -/

theorem bitAt_withBit (b : Byte) (n m : Tri) (v : Bool) : bitAt (withBit b n v) m = if m = n then v else bitAt b m := by
  have hn := n.isLt
  have hm := m.isLt
  have key : ∀ i < 8, ∀ j < 8, (1#8 <<< j).getLsbD i = decide (i = j) := by decide
  have hk := key m.toNat hm n.toNat hn
  have he : m = n ↔ m.toNat = n.toNat := BitVec.toNat_inj.symm
  cases v <;> by_cases h : m = n <;> simp_all [withBit, bitAt]

theorem withBit_self (b : Byte) (n : Tri) : withBit b n (bitAt b n) = b := by
  revert b n; decide

/-- A byte is known by its bits. -/
theorem byte_ext {a b : Byte} (h : ∀ f : Flag, bitAt a f.bit = bitAt b f.bit) : a = b := by
  have h0 := h .ba; have h1 := h .fis; have h2 := h .h; have h3 := h .d
  have h4 := h .v; have h5 := h .s; have h6 := h .z; have h7 := h .c
  simp only [bitAt, Flag.bit] at h0 h1 h2 h3 h4 h5 h6 h7
  apply BitVec.eq_of_getLsbD_eq
  intro i hi
  have : i = 0 ∨ i = 1 ∨ i = 2 ∨ i = 3 ∨ i = 4 ∨ i = 5 ∨ i = 6 ∨ i = 7 := by omega
  rcases this with rfl | rfl | rfl | rfl | rfl | rfl | rfl | rfl <;> assumption

/-! ## Flags -/

theorem Flag.bit_inj {f g : Flag} : f.bit = g.bit ↔ f = g := by cases f <;> cases g <;> decide

theorem State.flag_putFlag (s : State) (f g : Flag) (b : Bool) : (s.putFlag f b).flag g = if g = f then b else s.flag g := by
  simp only [State.flag, State.putFlag, State.setFlags_flags, bitAt_withBit, Flag.bit_inj]

theorem State.flag_putFlagOr (s : State) (f g : Flag) (o : Option Bool) :
    (s.putFlagOr f o).flag g = if g = f then o.getD (s.flag g) else s.flag g := by
  cases o <;> simp [State.putFlagOr, State.flag_putFlag]

theorem State.putFlagOr_eq (s : State) (f : Flag) (o : Option Bool) : ∃ b, s.putFlagOr f o = s.setFlags b := by
  cases o
  · exact ⟨s.flags, rfl⟩
  · exact ⟨_, rfl⟩

/-- A flag update changes FLAGS and nothing else. -/
theorem State.updateFlags_eq (s : State) (u : FlagUpdate) : ∃ b, s.updateFlags u = s.setFlags b := by
  obtain ⟨b1, h1⟩ := s.putFlagOr_eq .c u.c
  obtain ⟨b2, h2⟩ := (s.setFlags b1).putFlagOr_eq .z u.z
  obtain ⟨b3, h3⟩ := ((s.setFlags b1).setFlags b2).putFlagOr_eq .s u.s
  obtain ⟨b4, h4⟩ := (((s.setFlags b1).setFlags b2).setFlags b3).putFlagOr_eq .v u.v
  obtain ⟨b5, h5⟩ := ((((s.setFlags b1).setFlags b2).setFlags b3).setFlags b4).putFlagOr_eq .d u.d
  obtain ⟨b6, h6⟩ := (((((s.setFlags b1).setFlags b2).setFlags b3).setFlags b4).setFlags b5).putFlagOr_eq .h u.h
  exact ⟨b6, by rw [State.updateFlags, h1, h2, h3, h4, h5, h6]; rfl⟩

/-- Each flag after a flag update: its new value, or the one before. -/
theorem State.flag_updateFlags (s : State) (u : FlagUpdate) (f : Flag) : (s.updateFlags u).flag f = (u.of f).getD (s.flag f) := by
  cases f <;> simp [State.updateFlags, State.flag_putFlagOr, FlagUpdate.of]

@[simp] theorem State.updateFlags_none (s : State) : s.updateFlags {} = s := rfl

/-! ## Places -/

theorem Loc.key_inj {l m : Loc} (h : l.key = m.key) : l = m := by
  rcases l with ⟨p, a⟩ | n | r | ⟨b, n⟩ | _ <;> rcases m with ⟨p', a'⟩ | n' | r' | ⟨b', n'⟩ | _
  all_goals first
    | (have h1 := p.isLt; have h2 := a.isLt; have h3 := p'.isLt; have h4 := a'.isLt
       simp only [Loc.key] at h
       have ha : a.toNat = a'.toNat := by omega
       have hp : p.toNat = p'.toNat := by omega
       rw [BitVec.eq_of_toNat_eq ha, BitVec.eq_of_toNat_eq hp])
    | (cases r <;> cases r' <;> first | rfl | (simp [Loc.key, SysReg.ctorIdx] at h))
    | (cases b <;> cases b' <;> simp only [Loc.key] at h <;> first
        | (have h1 := n.isLt; have h2 := n'.isLt; omega)
        | (have : n.toNat = n'.toNat := by omega
           rw [BitVec.eq_of_toNat_eq this]))
    | (simp only [Loc.key] at h
       have : n.toNat = n'.toNat := by omega
       rw [BitVec.eq_of_toNat_eq this])
    | rfl
    | (cases b <;> simp only [Loc.key] at h <;> omega)
    | (cases b' <;> simp only [Loc.key] at h <;> omega)
    | (simp only [Loc.key] at h; omega)

/-! ## Reading a place -/

theorem State.accessStop_none {s : State} {l : Loc} : s.accessStop l = none ↔ s.readable l = true := by
  rcases l with ⟨p, a⟩ | n | r | ⟨b, n⟩ | _
  · simp [State.accessStop, State.readable]
  · simp [State.accessStop, State.readable, Loc.isMapped]
  · cases r <;> simp [State.accessStop, State.readable, Loc.isMapped]
  · simp [State.accessStop, State.readable, Loc.isMapped]
  · simp [State.accessStop, State.readable, Loc.isMapped]

/-- A place that can be read is read as `look` says. -/
theorem State.readLoc_ok {s : State} {l : Loc} (h : s.readable l = true) : s.readLoc l = .ok (s.look l) := by
  simp [State.readLoc, State.accessStop_none.2 h]

/-- What reading a place can do. -/
theorem State.readLoc_eq_ok {s : State} {l : Loc} {v : Byte} : s.readLoc l = .ok v ↔ s.readable l = true ∧ v = s.look l := by
  unfold State.readLoc
  cases h : s.accessStop l with
  | none => simp [State.accessStop_none.1 h, eq_comm]
  | some r =>
    have : s.readable l ≠ true := fun hr => by rw [State.accessStop_none.2 hr] at h; cases h
    simp [this]

/-! ## Writing a place -/

theorem State.pagesExist_eq (s : State) (v : Byte) :
    s.pagesExist v = (decide ((v &&& 0x0F#8).toNat < s.launch.nPages) && decide ((v >>> 4).toNat < s.launch.nPages)) := by
  have h1 : (v.extractLsb' 0 4).toNat = (v &&& 0x0F#8).toNat := by revert v; decide
  have h2 : (v.extractLsb' 4 4).toNat = (v >>> 4).toNat := by revert v; decide
  rw [State.pagesExist, h1, h2]

theorem State.writeStop_none {s : State} {l : Loc} {v : Byte} : s.writeStop l v = none ↔ s.writable s.ie (l, v) = true := by
  rcases l with ⟨p, a⟩ | n | r | ⟨b, n⟩ | _
  · simp [State.writeStop, State.writable, State.accessStop_none]
  · simp [State.writeStop, State.writable, State.accessStop_none]
  · cases r <;> simp [State.writeStop, State.writable, State.accessStop_none, State.pagesExist_eq]
  · simp [State.writeStop, State.writable, State.accessStop_none]
  · simp [State.writeStop, State.writable, State.accessStop_none]

/-- What writing a place can do. -/
theorem State.writeLoc_eq_ok {s t : State} {l : Loc} {v : Byte} :
    s.writeLoc l v = .ok t ↔ s.writable s.ie (l, v) = true ∧ t = s.poke l v := by
  unfold State.writeLoc
  cases h : s.writeStop l v with
  | none => simp [State.writeStop_none.1 h, eq_comm]
  | some r =>
    have : s.writable s.ie (l, v) ≠ true := fun hr => by rw [State.writeStop_none.2 hr] at h; cases h
    simp [this]

theorem State.writeLoc_ok {s : State} {l : Loc} {v : Byte} (h : s.writable s.ie (l, v) = true) :
    s.writeLoc l v = .ok (s.poke l v) := State.writeLoc_eq_ok.2 ⟨h, rfl⟩

/-! ### The fields a write leaves alone -/

theorem State.poke_launch (s : State) (l : Loc) (v : Byte) : (s.poke l v).launch = s.launch := by
  rcases l with _ | _ | r | _ | _ <;> [rfl; rfl; (cases r <;> rfl); rfl; rfl]

theorem State.poke_pc (s : State) (l : Loc) (v : Byte) : (s.poke l v).pc = s.pc := by
  rcases l with _ | _ | r | _ | _ <;> [rfl; rfl; (cases r <;> rfl); rfl; rfl]

theorem State.poke_tick (s : State) (l : Loc) (v : Byte) : (s.poke l v).tick = s.tick := by
  rcases l with _ | _ | r | _ | _ <;> [rfl; rfl; (cases r <;> rfl); rfl; rfl]

theorem State.poke_rom (s : State) (l : Loc) (v : Byte) : (s.poke l v).rom = s.rom := by
  rcases l with _ | _ | r | _ | _ <;> [rfl; rfl; (cases r <;> rfl); rfl; rfl]

theorem State.poke_data (s : State) (l : Loc) (v : Byte) : (s.poke l v).data = s.data := by
  rcases l with _ | _ | r | _ | _ <;> [rfl; rfl; (cases r <;> rfl); rfl; rfl]

theorem State.poke_shadow (s : State) (l : Loc) (v : Byte) : (s.poke l v).flagsShadow = s.flagsShadow := by
  rcases l with _ | _ | r | _ | _ <;> [rfl; rfl; (cases r <;> rfl); rfl; rfl]

theorem State.poke_power (s : State) (l : Loc) (v : Byte) : (s.poke l v).power = s.power := by
  rcases l with _ | _ | r | _ | _ <;> [rfl; rfl; (cases r <;> rfl); rfl; rfl]

theorem State.poke_waiting (s : State) (l : Loc) (v : Byte) : (s.poke l v).waiting = s.waiting := by
  rcases l with _ | _ | r | _ | _ <;> [rfl; rfl; (cases r <;> rfl); rfl; rfl]

theorem State.poke_env (s : State) (l : Loc) (v : Byte) : (s.poke l v).env = s.env := by
  rcases l with _ | _ | r | _ | _ <;> [rfl; rfl; (cases r <;> rfl); rfl; rfl]

theorem State.poke_pp (s : State) {l : Loc} (v : Byte) (h : l ≠ .sys .pp) : (s.poke l v).pp = s.pp := by
  rcases l with _ | _ | r | _ | _
  · rfl
  · rfl
  · cases r <;> first | rfl | exact absurd rfl h
  · rfl
  · rfl

/-- The basic timer counter after a write. -/
theorem State.poke_btcnt (s : State) (l : Loc) (v : Byte) :
    (s.poke l v).btcnt = if clearsCount (l, v) = true then 0x00#8 else s.btcnt := by
  rcases l with _ | _ | r | _ | _
  · rfl
  · rfl
  · cases r <;> rfl
  · rfl
  · rfl

/-- A latch set or cleared: that latch, and no other. -/
theorem getLsbD_withLatch (p : BitVec 22) (n m : Nat) (v : Bool) (hm : m < 22) :
    (withLatch p n v).getLsbD m = if m = n then v else p.getLsbD m := by
  have key : (1#22 <<< n).getLsbD m = decide (m = n) := by
    rw [BitVec.getLsbD_shiftLeft, BitVec.getLsbD_one]
    by_cases h : m = n
    · subst h; simp [hm]
    · simp [h]; omega
  unfold withLatch
  cases v
  · simp only [Bool.false_eq_true, if_false, BitVec.getLsbD_and, BitVec.getLsbD_not, key]
    by_cases h : m = n <;> simp only [h, decide_true, decide_false, Bool.not_false, Bool.not_true, Bool.and_false, if_true, if_false]
    simp [hm]
  · simp only [if_true, BitVec.getLsbD_or, key]
    by_cases h : m = n <;> simp [h]

/-- Every latch after a write of a volatile register. -/
theorem getLsbD_latchesAfterWrite (l : Loc) (v : Byte) (srcs : List Source) (n m : Nat) (p : BitVec 22) (hm : m < 22) :
    (latchesAfterWrite l v n srcs p).getLsbD m =
      if m < n then p.getLsbD m
      else match srcs[m - n]? with
        | some src =>
          if src.hardwareClear = false ∧ src.pendingBit.reg = l then Config.pendingAfterWrite m (p.getLsbD m) v else p.getLsbD m
        | none => p.getLsbD m := by
  induction srcs generalizing n p with
  | nil => simp [latchesAfterWrite]
  | cons src rest ih =>
    rw [latchesAfterWrite, ih]
    have hp : (if !src.hardwareClear && src.pendingBit.reg == l then withLatch p n (Config.pendingAfterWrite n (p.getLsbD n) v) else p).getLsbD m
        = if m = n ∧ src.hardwareClear = false ∧ src.pendingBit.reg = l then Config.pendingAfterWrite m (p.getLsbD m) v
          else p.getLsbD m := by
      by_cases hc : src.hardwareClear = false ∧ src.pendingBit.reg = l
      · by_cases h : m = n
        · subst h; simp [hc, getLsbD_withLatch _ _ _ _ hm]
        · simp [hc, getLsbD_withLatch _ _ _ _ hm, h]
      · have : (!src.hardwareClear && src.pendingBit.reg == l) = false := by
          cases hb : src.hardwareClear <;> simp_all
        simp [this, hc]
    rw [hp]
    rcases Nat.lt_trichotomy m n with h | h | h
    · simp [h, Nat.lt_succ_of_lt h, Nat.ne_of_lt h]
    · subst h; simp
    · have h1 : ¬ m < n + 1 := by omega
      have h2 : ¬ m < n := by omega
      have h3 : m - n = (m - (n + 1)) + 1 := by omega
      have h4 : m ≠ n := by omega
      rw [if_neg h1, if_neg h2, h3, List.getElem?_cons_succ]
      simp [h4]

/-- Every latch after a write. -/
theorem State.poke_pending (s : State) (l : Loc) (v : Byte) {n : Nat} (hn : n < 22) :
    (s.poke l v).pending.getLsbD n = latchAfter s.launch n (s.pending.getLsbD n) (l, v) := by
  have kept : (l.isVolatile = true ∧ l ≠ .sys .irq → False) → (s.poke l v).pending = s.pending →
      (s.poke l v).pending.getLsbD n = latchAfter s.launch n (s.pending.getLsbD n) (l, v) := by
    intro h e
    rw [e, latchAfter]
    cases s.launch.vectorMap[n]? with
    | none => rfl
    | some src => exact (if_neg fun c => h c.2.2).symm
  have written : l.isVolatile = true → l ≠ .sys .irq →
      (s.poke l v).pending = latchesAfterWrite l v 0 s.launch.vectorMap s.pending →
      (s.poke l v).pending.getLsbD n = latchAfter s.launch n (s.pending.getLsbD n) (l, v) := by
    intro h1 h2 e
    rw [e, getLsbD_latchesAfterWrite _ _ _ _ _ _ hn, latchAfter]
    cases s.launch.vectorMap[n]? <;> simp [h1, h2]
  rcases l with _ | _ | r | _ | _
  · exact kept (by simp [Loc.isVolatile]) rfl
  · exact kept (by simp [Loc.isVolatile]) rfl
  · cases r <;> first
      | exact written rfl (by decide) rfl
      | exact kept (by simp [Loc.isVolatile]) rfl
  · exact written rfl (by simp) rfl
  · exact written rfl (by simp) rfl

theorem State.poke_events (s : State) (l : Loc) (v : Byte) : (s.poke l v).events = (recorded (l, v)).toList ++ s.events := by
  rcases l with _ | _ | r | _ | _ <;> [rfl; rfl; (cases r <;> rfl); rfl; rfl]

theorem State.poke_latency (s : State) (l : Loc) (v : Byte) : (s.poke l v).latency = (s.latency || slowPlaces.contains l) := by
  rcases l with _ | _ | r | ⟨b, n⟩ | _
  · exact (Bool.or_false _).symm
  · exact (Bool.or_false _).symm
  · cases r <;> first | exact (Bool.or_false _).symm | exact (Bool.or_true _).symm
  · exact (Bool.or_false _).symm
  · exact (Bool.or_true _).symm

theorem State.poke_iprEpoch (s : State) (l : Loc) (v : Byte) :
    (s.poke l v).iprEpoch = if (l == .ipr) = true then s.tick else s.iprEpoch := by
  rcases l with _ | _ | r | _ | _ <;> [rfl; rfl; (cases r <;> rfl); rfl; rfl]

theorem State.poke_ie (s : State) (l : Loc) (v : Byte) : (s.poke l v).ie = enableAfter s.ie (l, v) := by
  have hb : bitAt (v &&& 0x1F#8) 0#3 = bitAt v 0#3 := by simp [bitAt]
  rcases l with _ | _ | r | _ | _
  · rfl
  · rfl
  · cases r <;> first | rfl | (simp [State.poke, State.pokeSys, State.ie, enableAfter, hb])
  · rfl
  · rfl

/-! ### What places hold after a write -/

theorem State.stored_congr {s t : State} (h1 : ∀ r, t.storedSys r = s.storedSys r) (h2 : t.ipr = s.ipr) (h3 : t.regs = s.regs)
    (l : Loc) : t.stored l = s.stored l := by
  rcases l with _ | _ | r | _ | _ <;> simp [State.stored, h1, h2, h3]

theorem State.stored_recordWrite (s : State) (l m : Loc) (v : Byte) : (s.recordWrite l v).stored m = s.stored m :=
  State.stored_congr (fun r => by cases r <;> rfl) rfl rfl m

/-- A byte written to `State.regs`: its place holds it, every other place what it held. -/
theorem State.stored_putRegs {s : State} (hs : s.regs.wf .registers = true) {l : Loc} (v : Byte) (m : Loc)
    (hl : ∀ r, l ≠ .sys r) (hi : l ≠ .ipr) : (s.putRegs l v).stored m = if m = l then v else s.stored m := by
  have key : ∀ n : Loc, (s.regs.write .registers l.key v).read .registers n.key
      = if n = l then v else s.regs.read .registers n.key := by
    intro n
    by_cases h : n = l
    · subst h; simp [Memory.read_write_same hs]
    · rw [if_neg h, Memory.read_write_other _ _ (fun hk => h (Loc.key_inj hk))]
  rcases m with ⟨p, a⟩ | n | r | ⟨b, n⟩ | _
  · exact key (.ram p a)
  · exact key (.common n)
  · rw [if_neg (hl r).symm]; cases r <;> rfl
  · exact key (.bank b n)
  · rw [if_neg hi.symm]; rfl

/-! A write to a system control register changes no other system control register. -/

theorem State.storedSys_pokeSys_t0cnt (s : State) (v : Byte) (q : SysReg) (h : q ≠ .t0cnt) : (s.pokeSys .t0cnt v).storedSys q = s.storedSys q := by
  cases q <;> first | exact absurd rfl h | rfl

theorem State.storedSys_pokeSys_t0data (s : State) (v : Byte) (q : SysReg) (h : q ≠ .t0data) : (s.pokeSys .t0data v).storedSys q = s.storedSys q := by
  cases q <;> first | exact absurd rfl h | rfl

theorem State.storedSys_pokeSys_t0con (s : State) (v : Byte) (q : SysReg) (h : q ≠ .t0con) : (s.pokeSys .t0con v).storedSys q = s.storedSys q := by
  cases q <;> first | exact absurd rfl h | rfl

theorem State.storedSys_pokeSys_btcon (s : State) (v : Byte) (q : SysReg) (h : q ≠ .btcon) : (s.pokeSys .btcon v).storedSys q = s.storedSys q := by
  cases q <;> first
    | exact absurd rfl h
    | rfl

theorem State.storedSys_pokeSys_clkcon (s : State) (v : Byte) (q : SysReg) (h : q ≠ .clkcon) : (s.pokeSys .clkcon v).storedSys q = s.storedSys q := by
  cases q <;> first | exact absurd rfl h | rfl

theorem State.storedSys_pokeSys_flags (s : State) (v : Byte) (q : SysReg) (h : q ≠ .flags) : (s.pokeSys .flags v).storedSys q = s.storedSys q := by
  cases q <;> first | exact absurd rfl h | rfl

theorem State.storedSys_pokeSys_rp0 (s : State) (v : Byte) (q : SysReg) (h : q ≠ .rp0) : (s.pokeSys .rp0 v).storedSys q = s.storedSys q := by
  cases q <;> first | exact absurd rfl h | rfl

theorem State.storedSys_pokeSys_rp1 (s : State) (v : Byte) (q : SysReg) (h : q ≠ .rp1) : (s.pokeSys .rp1 v).storedSys q = s.storedSys q := by
  cases q <;> first | exact absurd rfl h | rfl

theorem State.storedSys_pokeSys_sph (s : State) (v : Byte) (q : SysReg) (h : q ≠ .sph) : (s.pokeSys .sph v).storedSys q = s.storedSys q := by
  cases q <;> first | exact absurd rfl h | rfl

theorem State.storedSys_pokeSys_spl (s : State) (v : Byte) (q : SysReg) (h : q ≠ .spl) : (s.pokeSys .spl v).storedSys q = s.storedSys q := by
  cases q <;> first | exact absurd rfl h | rfl

theorem State.storedSys_pokeSys_iph (s : State) (v : Byte) (q : SysReg) (h : q ≠ .iph) : (s.pokeSys .iph v).storedSys q = s.storedSys q := by
  cases q <;> first | exact absurd rfl h | rfl

theorem State.storedSys_pokeSys_ipl (s : State) (v : Byte) (q : SysReg) (h : q ≠ .ipl) : (s.pokeSys .ipl v).storedSys q = s.storedSys q := by
  cases q <;> first | exact absurd rfl h | rfl

theorem State.storedSys_pokeSys_irq (s : State) (v : Byte) (q : SysReg) (h : q ≠ .irq) : (s.pokeSys .irq v).storedSys q = s.storedSys q := by
  cases q <;> first | exact absurd rfl h | rfl

theorem State.storedSys_pokeSys_imr (s : State) (v : Byte) (q : SysReg) (h : q ≠ .imr) : (s.pokeSys .imr v).storedSys q = s.storedSys q := by
  cases q <;> first | exact absurd rfl h | rfl

theorem State.storedSys_pokeSys_sym (s : State) (v : Byte) (q : SysReg) (h : q ≠ .sym) : (s.pokeSys .sym v).storedSys q = s.storedSys q := by
  cases q <;> first | exact absurd rfl h | rfl

theorem State.storedSys_pokeSys_pp (s : State) (v : Byte) (q : SysReg) (h : q ≠ .pp) : (s.pokeSys .pp v).storedSys q = s.storedSys q := by
  cases q <;> first | exact absurd rfl h | rfl

/-- A write to a system control register changes no other place. -/
theorem State.stored_pokeSys_other (s : State) (r : SysReg) (v : Byte) (m : Loc) (h : m ≠ .sys r) :
    (s.pokeSys r v).stored m = s.stored m := by
  rcases m with _ | _ | q | _ | _
  · cases r <;> rfl
  · cases r <;> rfl
  · have h' : q ≠ r := fun e => h (by rw [e])
    cases r
    · exact State.storedSys_pokeSys_t0cnt s v q h'
    · exact State.storedSys_pokeSys_t0data s v q h'
    · exact State.storedSys_pokeSys_t0con s v q h'
    · exact State.storedSys_pokeSys_btcon s v q h'
    · exact State.storedSys_pokeSys_clkcon s v q h'
    · exact State.storedSys_pokeSys_flags s v q h'
    · exact State.storedSys_pokeSys_rp0 s v q h'
    · exact State.storedSys_pokeSys_rp1 s v q h'
    · exact State.storedSys_pokeSys_sph s v q h'
    · exact State.storedSys_pokeSys_spl s v q h'
    · exact State.storedSys_pokeSys_iph s v q h'
    · exact State.storedSys_pokeSys_ipl s v q h'
    · exact State.storedSys_pokeSys_irq s v q h'
    · exact State.storedSys_pokeSys_imr s v q h'
    · exact State.storedSys_pokeSys_sym s v q h'
    · exact State.storedSys_pokeSys_pp s v q h'
  · cases r <;> rfl
  · cases r <;> rfl

/-- What a system control register holds after a write to it. -/
theorem State.stored_pokeSys_same (s : State) (r : SysReg) (v : Byte) :
    (s.pokeSys r v).stored (.sys r) = landed (s.drawBit .fastStatus) (s.stored (.sys r)) (.sys r) v := by
  cases r <;> rfl

/-- What every place holds after a write. -/
theorem State.stored_poke {s : State} (hs : s.regs.wf .registers = true) (l : Loc) (v : Byte) (m : Loc) :
    (s.poke l v).stored m = if m = l then landed (s.drawBit .fastStatus) (s.stored l) l v else s.stored m := by
  rcases l with ⟨p, a⟩ | n | r | ⟨b, n⟩ | _
  · exact State.stored_putRegs hs v m (by simp) (by simp)
  · exact State.stored_putRegs hs v m (by simp) (by simp)
  · by_cases h : m = .sys r
    · rw [if_pos h, h]; exact State.stored_pokeSys_same s r v
    · rw [if_neg h]; exact State.stored_pokeSys_other s r v m h
  · rw [show s.poke (.bank b n) v = (s.putRegs (.bank b n) v).recordWrite (.bank b n) v from rfl, State.stored_recordWrite]
    exact State.stored_putRegs hs v m (by simp) (by simp)
  · rw [show s.poke .ipr v = { s with ipr := v, iprEpoch := s.tick, latency := true }.recordWrite .ipr v from rfl,
      State.stored_recordWrite]
    by_cases h : m = .ipr
    · rw [if_pos h, h]; rfl
    · rw [if_neg h]
      rcases m with _ | _ | q | _ | _
      · rfl
      · rfl
      · cases q <;> rfl
      · rfl
      · exact absurd rfl h

/-- A write keeps the register memory canonical. -/
theorem State.poke_regs_wf {s : State} (hs : s.regs.wf .registers = true) (l : Loc) (v : Byte) :
    (s.poke l v).regs.wf .registers = true := by
  rcases l with _ | _ | r | _ | _
  · exact Memory.wf_write hs _ _
  · exact Memory.wf_write hs _ _
  · cases r <;> exact hs
  · exact Memory.wf_write hs _ _
  · exact hs

theorem State.readable_congr {s t : State} (h : t.launch = s.launch) (l : Loc) : t.readable l = s.readable l := by
  rcases l with _ | _ | r | _ | _ <;> [skip; skip; cases r; skip; skip] <;> simp [State.readable, h]

theorem State.writable_congr {s t : State} (h : t.launch = s.launch) (ie : Bool) (w : Write) : t.writable ie w = s.writable ie w := by
  obtain ⟨l, v⟩ := w
  rcases l with _ | _ | r | _ | _ <;> [skip; skip; cases r; skip; skip] <;> simp [State.writable, h, State.readable]

theorem State.writableAll_congr {s t : State} (h : t.launch = s.launch) (ie : Bool) (ws : List Write) :
    t.writableAll ie ws = s.writableAll ie ws := by
  induction ws generalizing ie with
  | nil => rfl
  | cons w ws ih => simp [State.writableAll, ih, State.writable_congr h]

end Sys2Proof.Machine
end

