-- ==== Sys2Proof/Laws/Did.lean ====
section
/-! SUPPORT. Writes one after another, and `State.Did` of the state they lead to: what every meaning that writes places, then flags, then
`pc` comes down to. -/

namespace Sys2Proof.Machine

/-- Some writes, one after another. -/
def State.pokes (s : State) (ws : List Write) : State := ws.foldl (fun s w => s.poke w.1 w.2) s

@[simp] theorem State.pokes_nil (s : State) : s.pokes [] = s := rfl

@[simp] theorem State.pokes_cons (s : State) (w : Write) (ws : List Write) : s.pokes (w :: ws) = (s.poke w.1 w.2).pokes ws := rfl

theorem State.drawBit_congr {s t : State} (h : t.tick = s.tick) (d : Config.DrawSlot) : t.drawBit d = s.drawBit d := by
  simp [State.drawBit, State.drawByte, h]

/-- The places after a first write and then others. -/
theorem State.heldAfter_cons {s : State} (hs : s.regs.wf .registers = true) (w : Write) (ws : List Write) :
    s.heldAfter (w :: ws) = (s.poke w.1 w.2).heldAfter ws := by
  unfold State.heldAfter
  rw [State.drawBit_congr (State.poke_tick s w.1 w.2), List.foldl_cons]
  congr 1
  funext l
  rw [State.stored_poke hs]
  by_cases h : l = w.1
  · subst h; simp
  · simp [h]

/-- The places after some writes. -/
theorem State.stored_pokes {s : State} (hs : s.regs.wf .registers = true) (ws : List Write) :
    (s.pokes ws).stored = s.heldAfter ws := by
  induction ws generalizing s with
  | nil => rfl
  | cons w ws ih => rw [State.heldAfter_cons hs, State.pokes_cons, ih (State.poke_regs_wf hs _ _)]

theorem State.pokes_regs_wf {s : State} (hs : s.regs.wf .registers = true) (ws : List Write) :
    (s.pokes ws).regs.wf .registers = true := by
  induction ws generalizing s with
  | nil => exact hs
  | cons w ws ih => exact ih (State.poke_regs_wf hs _ _)

/-- A field that no write changes is not changed by some writes. -/
theorem State.pokes_keep {α : Type} (f : State → α) (hf : ∀ s l v, f (State.poke s l v) = f s) (s : State) (ws : List Write) :
    f (s.pokes ws) = f s := by
  induction ws generalizing s with
  | nil => rfl
  | cons w ws ih => rw [State.pokes_cons, ih, hf]

@[simp] theorem State.pokes_launch (s : State) (ws : List Write) : (s.pokes ws).launch = s.launch :=
  State.pokes_keep State.launch State.poke_launch s ws

@[simp] theorem State.pokes_rom (s : State) (ws : List Write) : (s.pokes ws).rom = s.rom :=
  State.pokes_keep State.rom State.poke_rom s ws

@[simp] theorem State.pokes_data (s : State) (ws : List Write) : (s.pokes ws).data = s.data :=
  State.pokes_keep State.data State.poke_data s ws

@[simp] theorem State.pokes_tick (s : State) (ws : List Write) : (s.pokes ws).tick = s.tick :=
  State.pokes_keep State.tick State.poke_tick s ws

/-- Writes that do not reach PP leave both pages. -/
theorem State.pokes_pp (s : State) (ws : List Write) (h : ∀ w ∈ ws, w.1 ≠ .sys .pp) : (s.pokes ws).pp = s.pp := by
  induction ws generalizing s with
  | nil => rfl
  | cons w ws ih =>
    rw [State.pokes_cons, ih _ fun x hx => h x (by simp [hx])]
    exact State.poke_pp s w.2 (h w (by simp))

theorem State.pokes_btcnt (s : State) (ws : List Write) :
    (s.pokes ws).btcnt = if ws.any clearsCount = true then 0x00#8 else s.btcnt := by
  induction ws generalizing s with
  | nil => rfl
  | cons w ws ih =>
    rw [State.pokes_cons, ih, State.poke_btcnt, List.any_cons]
    cases clearsCount w <;> cases ws.any clearsCount <;> rfl

theorem State.pokes_pending (s : State) (ws : List Write) {n : Nat} (hn : n < 22) :
    (s.pokes ws).pending.getLsbD n = ws.foldl (latchAfter s.launch n) (s.pending.getLsbD n) := by
  induction ws generalizing s with
  | nil => rfl
  | cons w ws ih => rw [State.pokes_cons, ih, State.poke_pending _ _ _ hn, State.poke_launch]; rfl

theorem State.pokes_events (s : State) (ws : List Write) : (s.pokes ws).events = (ws.filterMap recorded).reverse ++ s.events := by
  induction ws generalizing s with
  | nil => rfl
  | cons w ws ih =>
    rw [State.pokes_cons, ih, State.poke_events]
    cases h : recorded w <;> simp [h]

theorem State.pokes_latency (s : State) (ws : List Write) :
    (s.pokes ws).latency = (s.latency || ws.any (fun w => slowPlaces.contains w.1)) := by
  induction ws generalizing s with
  | nil => simp
  | cons w ws ih => rw [State.pokes_cons, ih, State.poke_latency, List.any_cons, Bool.or_assoc]

theorem State.pokes_iprEpoch (s : State) (ws : List Write) :
    (s.pokes ws).iprEpoch = if ws.any (fun w => w.1 == .ipr) = true then s.tick else s.iprEpoch := by
  induction ws generalizing s with
  | nil => simp
  | cons w ws ih =>
    rw [State.pokes_cons, ih, State.poke_iprEpoch, State.poke_tick, List.any_cons]
    cases w.1 == Loc.ipr <;> cases ws.any (fun w => w.1 == .ipr) <;> simp

/-- FLAGS is a place like the others for its stored byte. -/
theorem State.flag_eq_stored (s : State) (f : Flag) : s.flag f = bitAt (s.stored (.sys .flags)) f.bit := rfl

theorem State.stored_setFlags (s : State) (b : Byte) (l : Loc) (h : l ≠ .sys .flags) : (s.setFlags b).stored l = s.stored l := by
  rcases l with _ | _ | r | _ | _
  · rfl
  · rfl
  · cases r <;> first | exact absurd rfl h | rfl
  · rfl
  · rfl

theorem State.stored_setPc (s : State) (w : Word) (l : Loc) : (s.setPc w).stored l = s.stored l :=
  State.stored_congr (fun r => by cases r <;> rfl) rfl rfl l

/-- Writes, then flags, then `pc`: exactly the access that lists them. -/
theorem State.did_pokes {s : State} (hs : s.regs.wf .registers = true) (a : Access) (ha : a.store = none) :
    s.Did (((s.pokes a.writes).updateFlags a.flags).setPc a.pc) a := by
  obtain ⟨b, hb⟩ := (s.pokes a.writes).updateFlags_eq a.flags
  constructor
  · intro l hl
    rw [State.stored_setPc, hb, State.stored_setFlags _ _ _ hl, State.stored_pokes hs]
  · intro f
    rw [← State.stored_pokes hs, ← State.flag_eq_stored, ← State.flag_updateFlags]; rfl
  · rfl
  · intro n; rw [hb]; exact congrArg (fun m => Memory.read .program m n) (State.pokes_keep State.rom State.poke_rom s a.writes)
  · intro n; rw [hb, ha]; exact congrArg (fun m => Memory.read .external m n) (State.pokes_keep State.data State.poke_data s a.writes)
  · rw [hb]; exact State.pokes_keep State.flagsShadow State.poke_shadow s a.writes
  · rw [hb]; exact State.pokes_keep State.power State.poke_power s a.writes
  · rw [hb]; exact State.pokes_keep State.waiting State.poke_waiting s a.writes
  · rw [hb]; exact State.pokes_keep State.launch State.poke_launch s a.writes
  · rw [hb]; exact State.pokes_keep State.env State.poke_env s a.writes
  · rw [hb]; exact State.pokes_keep State.tick State.poke_tick s a.writes
  · rw [hb]; exact State.pokes_btcnt s a.writes
  · intro n hn; rw [hb]; exact State.pokes_pending s a.writes hn
  · rw [hb]; exact State.pokes_events s a.writes
  · rw [hb]; exact State.pokes_latency s a.writes
  · rw [hb]; exact State.pokes_iprEpoch s a.writes

/-! ## Making the writes -/

/-- The first of some writes can be made, and the others after it. -/
theorem State.writeLoc_of_writableAll {s : State} {w : Write} {ws : List Write} (h : s.writableAll s.ie (w :: ws) = true) :
    s.writeLoc w.1 w.2 = .ok (s.poke w.1 w.2) ∧ (s.poke w.1 w.2).writableAll (s.poke w.1 w.2).ie ws = true := by
  simp only [State.writableAll, Bool.and_eq_true] at h
  refine ⟨State.writeLoc_ok h.1, ?_⟩
  rw [State.writableAll_congr (State.poke_launch s w.1 w.2), State.poke_ie]
  exact h.2

theorem State.inv_regs {s : State} (h : s.inv = true) : s.regs.wf .registers = true := by
  simp only [State.inv, Bool.and_eq_true] at h; exact h.1.1.1.1.1.1.1.1.1

theorem State.inv_data {s : State} (h : s.inv = true) : s.data.wf .external = true := by
  simp only [State.inv, Bool.and_eq_true] at h; exact h.1.1.1.1.1.1.1.2

/-- An instruction whose meaning is some writes, then flags, then `pc`. -/
theorem State.completes_of_pokes {s : State} {i : Instr} {a : Access} (ha : a.store = none)
    (h : s.ready a = true → exec i s = .next (((s.pokes a.writes).updateFlags a.flags).setPc a.pc)) : s.Completes i a :=
  fun hi hr => ⟨_, h hr, State.did_pokes (State.inv_regs hi) a ha⟩

/-- What a ready access gives: its reads, its writes. -/
theorem State.ready_iff {s : State} {a : Access} :
    s.ready a = true ↔ (∀ l ∈ a.reads, s.readable l = true) ∧ s.writableAll s.ie a.writes = true := by
  simp [State.ready]

@[simp] theorem State.setPc_self (s : State) : s.setPc s.pc = s := rfl

theorem State.pokes_pc (s : State) (ws : List Write) : (s.pokes ws).pc = s.pc := State.pokes_keep State.pc State.poke_pc s ws

theorem State.updateFlags_pc (s : State) (u : FlagUpdate) : (s.updateFlags u).pc = s.pc := by
  obtain ⟨b, hb⟩ := s.updateFlags_eq u; rw [hb]; rfl

/-- As `setPc_self`, for the states the meanings end in. -/
theorem State.setPc_same {s t : State} (h : t.pc = s.pc) : t.setPc s.pc = t := by rw [← h]; rfl

end Sys2Proof.Machine
end

