-- ==== Sys2Proof/Laws/Shapes.lean ====
section
/-! SUPPORT. What the operand operations and the instruction shapes of Operands.lean do, one lemma each: where their places can be accessed
they answer, with this result. -/

namespace Sys2Proof.Machine

theorem ok_bind {α β : Type} (a : α) (f : α → Res β) : ((Except.ok a : Res α) >>= f) = f a := rfl

theorem error_bind {α β : Type} (e : Stop) (f : α → Res β) : ((Except.error e : Res α) >>= f) = .error e := rfl

@[simp] theorem finish_ok (s : State) : finish (.ok s) = .next s := rfl

@[simp] theorem finish_pure (s : State) : finish (pure s) = .next s := rfl

@[simp] theorem finish_fault (f : Fault) : finish (.error (.fault f)) = .fault f := rfl

@[simp] theorem finish_refusal (r : Refusal) : finish (.error (.refusal r)) = .refused r := rfl

/-- A meaning answers a next state exactly where its operations have a result. -/
theorem finish_eq_next {r : Res State} {t : State} : finish r = .next t ↔ r = .ok t := by
  rcases r with (_ | _) | s <;> simp [finish]

/-- A result of a sequence comes from a result of its first part. -/
theorem bind_eq_ok {α β : Type} {x : Res α} {f : α → Res β} {b : β} : (x >>= f) = .ok b ↔ ∃ a, x = .ok a ∧ f a = .ok b := by
  rcases x with e | a
  · simp [error_bind]
  · simp [ok_bind]

/-! ## Operands -/

theorem State.readWork_ok {s : State} {n : Nibble} (h : s.readable (s.workLoc s.srcPage n) = true) :
    s.readWork n = .ok (s.look (s.workLoc s.srcPage n)) := State.readLoc_ok h

theorem State.readReg_ok {s : State} {a : Byte} (h : s.readable (s.regLoc s.srcPage a) = true) :
    s.readReg a = .ok (s.look (s.regLoc s.srcPage a)) := State.readLoc_ok h

theorem State.readInd_ok {s : State} {a : Byte} (h : s.readable (.ram s.srcPage a) = true) :
    s.readInd a = .ok (s.look (.ram s.srcPage a)) := State.readLoc_ok h

theorem State.readWorkInd_ok {s : State} {n : Nibble} (h : s.readable (s.workLoc s.srcPage n) = true)
    (hp : s.readable (.ram s.srcPage (s.look (s.workLoc s.srcPage n))) = true) :
    s.readWorkInd n = .ok (s.look (.ram s.srcPage (s.look (s.workLoc s.srcPage n)))) := by
  simp only [State.readWorkInd, State.readWork_ok h, ok_bind, State.readInd_ok hp]

theorem State.readRegInd_ok {s : State} {a : Byte} (h : s.readable (s.regLoc s.srcPage a) = true)
    (hp : s.readable (.ram s.srcPage (s.look (s.regLoc s.srcPage a))) = true) :
    s.readRegInd a = .ok (s.look (.ram s.srcPage (s.look (s.regLoc s.srcPage a)))) := by
  simp only [State.readRegInd, State.readReg_ok h, ok_bind, State.readInd_ok hp]

theorem State.dstRegInd_ok {s : State} {a : Byte} (h : s.readable (s.regLoc s.srcPage a) = true) :
    s.dstRegInd a = .ok (s.dstInd (s.look (s.regLoc s.srcPage a))) := by
  simp only [State.dstRegInd, State.readReg_ok h, ok_bind]; rfl

theorem State.readWorkPair_ok {s : State} {p : Tri} (h : s.readable (s.workLoc s.srcPage (pairNumber p)) = true)
    (h' : s.readable (s.workLoc s.srcPage (pairNumber p + 1#4)) = true) :
    s.readWorkPair p
      = .ok (wordOf (s.look (s.workLoc s.srcPage (pairNumber p))) (s.look (s.workLoc s.srcPage (pairNumber p + 1#4)))) := by
  simp only [State.readWorkPair, State.readWork_ok h, State.readWork_ok h', ok_bind]; rfl

theorem evenOr_even {α : Type} {a : Byte} (h : bitAt a 0#3 = false) (r : Refusal) (k : Res α) : evenOr a r k = k := by
  simp [evenOr, h]

theorem evenOr_odd {α : Type} {a : Byte} (h : bitAt a 0#3 = true) (r : Refusal) (k : Res α) :
    evenOr a r k = .error (.refusal r) := by
  simp [evenOr, h]

theorem State.readRegPair_ok {s : State} {a : Byte} (he : bitAt a 0#3 = false) (h : s.readable (s.regLoc s.srcPage a) = true)
    (h' : s.readable (s.regLoc s.srcPage (a + 1#8)) = true) :
    s.readRegPair a = .ok (wordOf (s.look (s.regLoc s.srcPage a)) (s.look (s.regLoc s.srcPage (a + 1#8)))) := by
  simp only [State.readRegPair, evenOr_even he, State.readReg_ok h, State.readReg_ok h', ok_bind]; rfl

theorem State.readIndPair_ok {s : State} {p : Byte} (he : bitAt p 0#3 = false) (h : s.readable (.ram s.srcPage p) = true)
    (h' : s.readable (.ram s.srcPage (p + 1#8)) = true) :
    s.readIndPair p = .ok (wordOf (s.look (.ram s.srcPage p)) (s.look (.ram s.srcPage (p + 1#8)))) := by
  simp only [State.readIndPair, evenOr_even he, State.readInd_ok h, State.readInd_ok h', ok_bind]; rfl

/-! ## Results -/

theorem State.writeTwo_ok {s : State} {l m : Loc} {a b : Byte} (h : s.writableAll s.ie [(l, a), (m, b)] = true) :
    s.writeTwo l m a b = .ok (s.pokes [(l, a), (m, b)]) := by
  obtain ⟨h1, h2⟩ := State.writeLoc_of_writableAll h
  obtain ⟨h3, -⟩ := State.writeLoc_of_writableAll h2
  simp only at h1 h3
  simp only [State.writeTwo, h1, ok_bind, h3]; rfl

theorem State.storeResult_ok {s : State} {l : Loc} {r : AluResult} (h : s.writableAll s.ie [(l, r.value)] = true) :
    s.storeResult l r = .ok ((s.pokes [(l, r.value)]).updateFlags r.flags) := by
  have h1 := (State.writeLoc_of_writableAll h).1
  simp only at h1
  simp only [State.storeResult, h1, ok_bind]; rfl

theorem State.storePair_ok {s : State} {l m : Loc} {r : PairResult} (h : s.writableAll s.ie [(l, r.high), (m, r.low)] = true) :
    s.storePair l m r = .ok ((s.pokes [(l, r.high), (m, r.low)]).updateFlags r.flags) := by
  simp only [State.storePair, State.writeTwo_ok h, ok_bind]; rfl

/-! ## Program and data memory -/

theorem State.progRead_ok {s : State} {a : Word} (h : a.toNat ≤ s.launch.part.romTop) :
    s.progRead a = .ok (s.rom.read .program a.toNat) := by simp [State.progRead, h]

theorem State.progRead_above {s : State} {a : Word} (h : s.launch.part.romTop < a.toNat) :
    s.progRead a = .error (.fault .progAddressOutOfRange) := by simp [State.progRead, Nat.not_le.2 h]

theorem Part.romTop_lt (p : Part) : p.romTop < 0x8000 := by cases p <;> decide

theorem State.progRead16_ok {s : State} {a : Word} (h : a.toNat + 1 ≤ s.launch.part.romTop) :
    s.progRead16 a = .ok (wordOf (s.rom.read .program a.toNat) (s.rom.read .program (a.toNat + 1))) := by
  have hr := s.launch.part.romTop_lt
  have h1 : (a + 1#16).toNat = a.toNat + 1 := by simp [BitVec.toNat_add]; omega
  rw [State.progRead16, State.progRead_ok (show a.toNat ≤ _ by omega), ok_bind,
    State.progRead_ok (show (a + 1#16).toNat ≤ _ by omega), ok_bind, h1]; rfl

/-- What reading program memory can do. -/
theorem State.progRead_eq_ok {s : State} {a : Word} {v : Byte} :
    s.progRead a = .ok v ↔ a.toNat ≤ s.launch.part.romTop ∧ v = s.rom.read .program a.toNat := by
  unfold State.progRead
  split_ifs with h <;> simp [h, eq_comm]

theorem State.dataRead_ok {s : State} (h : s.launch.hasExtDataMem = true) (a : Word) :
    s.dataRead a = .ok (s.data.read .external a.toNat) := by simp [State.dataRead, h]

theorem State.dataWrite_ok {s : State} (h : s.launch.hasExtDataMem = true) (a : Word) (v : Byte) :
    s.dataWrite a v = .ok (s.setData (s.data.write .external a.toNat v)) := by simp [State.dataWrite, h]

/-- What storing to data memory can do. -/
theorem State.dataWrite_eq_ok {s t : State} {a : Word} {v : Byte} :
    s.dataWrite a v = .ok t ↔ s.launch.hasExtDataMem = true ∧ t = s.setData (s.data.write .external a.toNat v) := by
  unfold State.dataWrite
  split_ifs with h <;> simp [h, eq_comm]

/-! ## The stack -/

theorem State.push8_ok {s : State} (v : Byte) (h : s.readable (.ram s.dstPage (s.spl - 1#8)) = true) :
    s.push8 v = .ok (s.pokes [(.sys .spl, s.spl - 1#8), (.ram s.dstPage (s.spl - 1#8), v)]) :=
  State.writeLoc_ok (s := s.setSpl (s.spl - 1#8)) h

theorem State.pop8_ok {s : State} (h : s.readable (.ram s.srcPage s.spl) = true) :
    s.pop8 = .ok (s.look (.ram s.srcPage s.spl), s.setSpl (s.spl + 1#8)) := by
  simp only [State.pop8, State.readLoc_ok h, ok_bind]; rfl

/-- What a pop can do. -/
theorem State.pop8_eq_ok {s t : State} {v : Byte} :
    s.pop8 = .ok (v, t) ↔ s.readable (.ram s.srcPage s.spl) = true ∧ v = s.look (.ram s.srcPage s.spl) ∧ t = s.setSpl (s.spl + 1#8) := by
  constructor
  · intro h
    obtain ⟨a, ha, hb⟩ := bind_eq_ok.1 h
    obtain ⟨hr, rfl⟩ := State.readLoc_eq_ok.1 ha
    cases hb
    exact ⟨hr, rfl, rfl⟩
  · rintro ⟨h, rfl, rfl⟩; exact State.pop8_ok h

/-- What a push can do. -/
theorem State.push8_eq_ok {s t : State} {v : Byte} :
    s.push8 v = .ok t ↔ s.readable (.ram s.dstPage (s.spl - 1#8)) = true
      ∧ t = (s.setSpl (s.spl - 1#8)).poke (.ram s.dstPage (s.spl - 1#8)) v :=
  State.writeLoc_eq_ok

theorem State.push16_ok {s : State} (w : Word) (h : s.dstPage.toNat < s.launch.nPages) :
    s.push16 w = .ok (s.pokes
      [(.sys .spl, s.spl - 1#8), (.ram s.dstPage (s.spl - 1#8), loByte w),
       (.sys .spl, s.spl - 1#8 - 1#8), (.ram s.dstPage (s.spl - 1#8 - 1#8), hiByte w)]) := by
  have h' : ∀ a, s.readable (.ram s.dstPage a) = true := fun a => by simpa [State.readable] using h
  rw [State.push16, State.push8_ok _ (h' _), ok_bind]
  exact State.push8_ok (s := s.pokes [(.sys .spl, s.spl - 1#8), (.ram s.dstPage (s.spl - 1#8), loByte w)]) _
    (h' (s.spl - 1#8 - 1#8))

theorem State.pop16_ok {s : State} (h : s.srcPage.toNat < s.launch.nPages) :
    s.pop16 = .ok (wordOf (s.look (.ram s.srcPage s.spl)) (s.look (.ram s.srcPage (s.spl + 1#8))), s.setSpl (s.spl + 2#8)) := by
  have h' : ∀ a, s.readable (.ram s.srcPage a) = true := fun a => by simpa [State.readable] using h
  have h2 : (s.setSpl (s.spl + 1#8)).pop8
      = .ok (s.look (.ram s.srcPage (s.spl + 1#8)), (s.setSpl (s.spl + 1#8)).setSpl (s.spl + 1#8 + 1#8)) :=
    State.pop8_ok (s := s.setSpl (s.spl + 1#8)) (h' (s.spl + 1#8))
  rw [State.pop16, State.pop8_ok (h' _), ok_bind]
  simp only [h2, ok_bind]
  rw [show s.spl + 2#8 = s.spl + 1#8 + 1#8 by rw [BitVec.add_assoc]; rfl]; rfl

end Sys2Proof.Machine
end

