-- ==== Sys2Proof/Laws/Entry.lean ====
section
/-! SUPPORT. What taking an interrupt and returning from one do, said once, and the boundary that leads to an entry. -/

namespace Sys2Proof.Machine

/-- Reading program memory depends on its bytes and on the part. -/
theorem State.progRead16_congr {s t : State} (hr : t.rom = s.rom) (hl : t.launch = s.launch) (a : Word) :
    t.progRead16 a = s.progRead16 a := by
  simp only [State.progRead16, State.progRead, hr, hl]

/-! ## The stack as a memory -/

/-- The register memory after a push. -/
def State.pushedRegs (s : State) (sp : Byte) (m : Memory) (v : Byte) : Memory := m.write .registers (Loc.ram s.dstPage sp).key v

/-- A push: SP one less, the byte there. -/
theorem State.push8_eq {s : State} (v : Byte) (h : s.dstPage.toNat < s.launch.nPages) :
    s.push8 v = .ok ((s.setSpl (s.spl - 1#8)).setRegs (s.pushedRegs (s.spl - 1#8) s.regs v)) := by
  rw [State.push8_ok v (by simpa [State.readable] using h)]; rfl

/-- The register memory after a normal entry: PC low, PC high and FLAGS below SP (60_exceptions.md R293). -/
def State.entryRegs (s : State) : Memory :=
  s.pushedRegs (s.spl - 1#8 - 1#8 - 1#8)
    (s.pushedRegs (s.spl - 1#8 - 1#8) (s.pushedRegs (s.spl - 1#8) s.regs (loByte s.pc)) (hiByte s.pc)) s.flags

/-- The three pushes of a normal entry (60_exceptions.md R293): PC low, PC high, FLAGS. -/
theorem State.entryPushes {α : Type} {s : State} (hp : s.dstPage.toNat < s.launch.nPages) (k : State → Res α) :
    ((s.putIe false).push16 s.pc >>= fun s1 => s1.push8 s.flags >>= k)
      = k (((s.putIe false).setSpl (s.spl - 1#8 - 1#8 - 1#8)).setRegs s.entryRegs) := by
  have h1 : (s.putIe false).push8 (loByte s.pc)
      = .ok (((s.putIe false).setSpl (s.spl - 1#8)).setRegs (s.pushedRegs (s.spl - 1#8) s.regs (loByte s.pc))) :=
    State.push8_eq _ hp
  have h2 : (((s.putIe false).setSpl (s.spl - 1#8)).setRegs (s.pushedRegs (s.spl - 1#8) s.regs (loByte s.pc))).push8 (hiByte s.pc)
      = .ok (((s.putIe false).setSpl (s.spl - 1#8 - 1#8)).setRegs
        (s.pushedRegs (s.spl - 1#8 - 1#8) (s.pushedRegs (s.spl - 1#8) s.regs (loByte s.pc)) (hiByte s.pc))) :=
    State.push8_eq _ hp
  have h3 : (((s.putIe false).setSpl (s.spl - 1#8 - 1#8)).setRegs
        (s.pushedRegs (s.spl - 1#8 - 1#8) (s.pushedRegs (s.spl - 1#8) s.regs (loByte s.pc)) (hiByte s.pc))).push8 s.flags
      = .ok (((s.putIe false).setSpl (s.spl - 1#8 - 1#8 - 1#8)).setRegs s.entryRegs) :=
    State.push8_eq _ hp
  rw [State.push16, h1, ok_bind, h2, ok_bind, h3, ok_bind]

/-- Normal entry (60_exceptions.md R293), the vector even and both its bytes at or below ROM_TOP. -/
theorem State.normalEntry_ok {s : State} {n : Nat} {src : Source} (hp : s.dstPage.toNat < s.launch.nPages)
    (ho : bitAt src.vector 0#3 = false) (hr : (zext16 src.vector).toNat + 1 ≤ s.launch.part.romTop) :
    s.normalEntry n src = .ok
      (((((s.putIe false).setSpl (s.spl - 1#8 - 1#8 - 1#8)).setRegs s.entryRegs).setPending
          (if src.hardwareClear = true then withLatch s.pending n false else s.pending)).setPc
        (wordOf (s.rom.read .program (zext16 src.vector).toNat) (s.rom.read .program ((zext16 src.vector).toNat + 1)))) := by
  have hv : ∀ p, ((((s.putIe false).setSpl (s.spl - 1#8 - 1#8 - 1#8)).setRegs s.entryRegs).setPending p).progRead16 (zext16 src.vector)
      = .ok (wordOf (s.rom.read .program (zext16 src.vector).toNat) (s.rom.read .program ((zext16 src.vector).toNat + 1))) :=
    fun _ => (State.progRead16_congr rfl rfl _).trans (State.progRead16_ok hr)
  have hv' : (((s.putIe false).setSpl (s.spl - 1#8 - 1#8 - 1#8)).setRegs s.entryRegs).progRead16 (zext16 src.vector)
      = .ok (wordOf (s.rom.read .program (zext16 src.vector).toNat) (s.rom.read .program ((zext16 src.vector).toNat + 1))) := hv _
  rw [State.normalEntry, State.entryPushes hp]
  simp only [ho, Bool.false_eq_true, if_false]
  cases src.hardwareClear
  · simp only [Bool.false_eq_true, if_false, hv', ok_bind]; rfl
  · simp only [if_true, hv, ok_bind]; rfl

/-- Normal entry with an odd vector (20_memory.md R60; U5): refused by name. -/
theorem State.normalEntry_odd {s : State} {n : Nat} {src : Source} (hp : s.dstPage.toNat < s.launch.nPages)
    (ho : bitAt src.vector 0#3 = true) : s.normalEntry n src = .error (.refusal .oddVector) := by
  rw [State.normalEntry, State.entryPushes hp]
  simp only [ho, if_true]

/-! ## The return -/

/-- A normal return (43_program_control.md R213): FLAGS, then PC, from the stack; SYM.0 set. -/
theorem State.returnFromInterrupt_normal {s : State} (hf : s.flag .fis = false) (hp : s.srcPage.toNat < s.launch.nPages) :
    s.returnFromInterrupt = .ok
      (((((s.setFlags (s.look (.ram s.srcPage s.spl))).setSpl (s.spl + 3#8)).setPc
        (wordOf (s.look (.ram s.srcPage (s.spl + 1#8))) (s.look (.ram s.srcPage (s.spl + 2#8))))).putIe true).setLatency true) := by
  have e1 : s.spl + 1#8 + 1#8 = s.spl + 2#8 := by rw [BitVec.add_assoc]; rfl
  have e2 : s.spl + 1#8 + 2#8 = s.spl + 3#8 := by rw [BitVec.add_assoc]; rfl
  have h2 := State.pop16_ok (s := (s.setSpl (s.spl + 1#8)).setFlags (s.look (.ram s.srcPage s.spl))) hp
  rw [State.returnFromInterrupt, if_neg (by simp [hf]), State.pop8_ok (by simpa [State.readable] using hp), ok_bind]
  simp only [h2, ok_bind, ← e2, ← e1]; rfl

/-- A fast return (R213): PC and IP exchanged, FLAGS from the shadow without FIS. -/
theorem State.returnFromInterrupt_fast {s : State} (hf : s.flag .fis = true) :
    s.returnFromInterrupt = .ok
      ((((((s.setPc s.ip).putIp s.pc).setFlags s.flagsShadow).putFlag .fis false).putIe
        (s.ie || s.drawBit .fastReturnEnable)).setLatency true) := by
  rw [State.returnFromInterrupt, if_pos hf]

end Sys2Proof.Machine
end

