-- ==== Sys2Proof/Laws/Fetch.lean ====
section
/-! SUPPORT. What a fetch can do, said once: the bytes it hands to the decoder, and where it stops (10_state.md R21; 20_memory.md R54). -/

namespace Sys2Proof.Machine

/-- The n bytes of program memory from an address on. -/
def State.codeBytes (s : State) (a n : Nat) : List Byte := (List.range n).map (fun k => s.rom.read .program (a + k))

theorem State.codeBytes_succ (s : State) (a n : Nat) : s.codeBytes a (n + 1) = s.rom.read .program a :: s.codeBytes (a + 1) n := by
  simp only [State.codeBytes, List.range_succ_eq_map, List.map_cons, List.map_map, Nat.add_zero]
  congr 1
  exact List.map_congr_left fun k _ => by rw [Function.comp_apply, Nat.succ_eq_add_one, Nat.add_assoc, Nat.add_comm 1]

theorem toNat_succ_of_le {a : Word} {p : Part} (h : a.toNat ≤ p.romTop) : (a + 1#16).toNat = a.toNat + 1 := by
  have := p.romTop_lt
  rw [BitVec.toNat_add, show (1#16 : Word).toNat = 1 from rfl, Nat.mod_eq_of_lt (by omega)]

/-- Bytes at or below ROM_TOP are read. -/
theorem State.fetchBytes_ok {s : State} {n : Nat} {a : Word} (h : a.toNat + n ≤ s.launch.part.romTop + 1) :
    s.fetchBytes n a = .ok (s.codeBytes a.toNat n) := by
  induction n generalizing a with
  | zero => rfl
  | succ n ih =>
    have e := toNat_succ_of_le (p := s.launch.part) (a := a) (by omega)
    rw [State.fetchBytes, State.progRead_ok (by omega), ok_bind, ih (by rw [e]; omega), ok_bind, s.codeBytes_succ, e]
    rfl

/-- A read that runs on above ROM_TOP stops. -/
theorem State.fetchBytes_above {s : State} {n : Nat} {a : Word} (ha : a.toNat ≤ s.launch.part.romTop + 1)
    (h : s.launch.part.romTop + 1 < a.toNat + n) : s.fetchBytes n a = .error (.fault .progAddressOutOfRange) := by
  induction n generalizing a with
  | zero => omega
  | succ n ih =>
    by_cases h1 : a.toNat ≤ s.launch.part.romTop
    · have e := toNat_succ_of_le h1
      rw [State.fetchBytes, State.progRead_ok h1, ok_bind, ih (by rw [e]; omega) (by rw [e]; omega)]; rfl
    · rw [State.fetchBytes, State.progRead_above (by omega)]; rfl

-- As modules two equal `match` terms may have matchers of their own, as one text they share one: hence `all_goals` before the last `cases`.

/-- THE FETCH: as many bytes as the first asks for, decoded (30_encoding.md R81). -/
theorem State.fetch_ok {s : State} {n : Nat} (hn : lengthOf (s.rom.read .program s.pc.toNat) = n + 1)
    (h : s.pc.toNat + n ≤ s.launch.part.romTop) :
    s.fetch = match decode (s.codeBytes s.pc.toNat (n + 1)) with
      | .ok (i, _) => .ok (i, n + 1)
      | .error e => .error (decodeStop e) := by
  have e := toNat_succ_of_le (p := s.launch.part) (a := s.pc) (by omega)
  rw [State.fetch, State.progRead_ok (by omega), ok_bind, hn, Nat.add_sub_cancel, State.fetchBytes_ok (by rw [e]; omega), ok_bind,
    s.codeBytes_succ, e]
  all_goals cases decode _ <;> rfl

/-- A fetch that begins or runs on above ROM_TOP stops (20_memory.md R54). -/
theorem State.fetch_above {s : State}
    (h : s.launch.part.romTop + 1 < s.pc.toNat + lengthOf (s.rom.read .program s.pc.toNat) ∨ s.launch.part.romTop < s.pc.toNat) :
    s.fetch = .error (.fault .progAddressOutOfRange) := by
  by_cases h1 : s.pc.toNat ≤ s.launch.part.romTop
  · have e := toNat_succ_of_le h1
    rw [State.fetch, State.progRead_ok h1, ok_bind, State.fetchBytes_above (by rw [e]; omega) (by rw [e]; omega)]; rfl
  · rw [State.fetch, State.progRead_above (by omega)]; rfl

/-- With no input to come, a step is what its boundary leads to. -/
theorem environment_nil {s : State} (h : s.env = []) : s.environment = s := by rw [State.environment, h]

/-- Which request is served does not depend on the mark of the last instruction. -/
theorem State.served_setLatency (s : State) (b : Bool) : (s.setLatency b).served = s.served := by
  have gen : ∀ (l : List Source) n best, (s.setLatency b).servedFrom n l best = s.servedFrom n l best := by
    intro l
    induction l with
    | nil => intro n best; rfl
    | cons x xs ih => intro n best; exact ih _ _
  exact gen _ 0 none

/-- The step of a running machine with no request to serve and no wait fetches. -/
theorem step_fetches {s : State} (h : s.env = []) (hp : s.power = .run) (hw : s.waiting = false) (hv : s.served = none) :
    step s = match s.fetch with
      | .error e => finish (.error e)
      | .ok (i, len) => ticked (exec i (s.beginInstr len)) := by
  simp only [step, environment_nil h, State.boundary, hp, State.runBoundary, hv, hw, Bool.false_eq_true, if_false]
  all_goals cases s.fetch <;> rfl

end Sys2Proof.Machine
end

