-- ==== Sys2Proof/Laws/PerInstr.lean ====
section
/-! SUPPORT. Statements about every instruction as syntax, one lemma a constructor. `EncodeLength`: the encoder writes as many bytes as the
first byte says an instruction has (30_encoding.md R81), so that the length a fetch takes from the first byte is the instruction's. -/

namespace Sys2Proof.Laws

/-- The encoding of an instruction is as long as its first byte says. -/
def EncodeLength.Statement (i : Instr) : Prop := (encode i).length = lengthOf ((encode i).headD 0#8)

/-- A first byte with an operand in its high nibble. -/
theorem lengthOf_operand (n : Nibble) :
    lengthOf (n ++ 8#4) = 2 ∧ lengthOf (n ++ 9#4) = 2 ∧ lengthOf (n ++ 10#4) = 2 ∧ lengthOf (n ++ 11#4) = 2
      ∧ lengthOf (n ++ 12#4) = 2 ∧ lengthOf (n ++ 13#4) = 3 ∧ lengthOf (n ++ 14#4) = 1 := by
  revert n; decide

theorem EncodeLength.add_r_r (dst : Nibble) (src : Nibble) : EncodeLength.Statement (.add_r_r dst src) :=
  show 2 = lengthOf 0x02#8 by decide

theorem EncodeLength.add_r_Ir (dst : Nibble) (src : Nibble) : EncodeLength.Statement (.add_r_Ir dst src) :=
  show 2 = lengthOf 0x03#8 by decide

theorem EncodeLength.add_R_R (dst : Byte) (src : Byte) : EncodeLength.Statement (.add_R_R dst src) :=
  show 3 = lengthOf 0x04#8 by decide

theorem EncodeLength.add_R_IR (dst : Byte) (src : Byte) : EncodeLength.Statement (.add_R_IR dst src) :=
  show 3 = lengthOf 0x05#8 by decide

theorem EncodeLength.add_R_IM (dst : Byte) (im : Byte) : EncodeLength.Statement (.add_R_IM dst im) :=
  show 3 = lengthOf 0x06#8 by decide

theorem EncodeLength.adc_r_r (dst : Nibble) (src : Nibble) : EncodeLength.Statement (.adc_r_r dst src) :=
  show 2 = lengthOf 0x12#8 by decide

theorem EncodeLength.adc_r_Ir (dst : Nibble) (src : Nibble) : EncodeLength.Statement (.adc_r_Ir dst src) :=
  show 2 = lengthOf 0x13#8 by decide

theorem EncodeLength.adc_R_R (dst : Byte) (src : Byte) : EncodeLength.Statement (.adc_R_R dst src) :=
  show 3 = lengthOf 0x14#8 by decide

theorem EncodeLength.adc_R_IR (dst : Byte) (src : Byte) : EncodeLength.Statement (.adc_R_IR dst src) :=
  show 3 = lengthOf 0x15#8 by decide

theorem EncodeLength.adc_R_IM (dst : Byte) (im : Byte) : EncodeLength.Statement (.adc_R_IM dst im) :=
  show 3 = lengthOf 0x16#8 by decide

theorem EncodeLength.sub_r_r (dst : Nibble) (src : Nibble) : EncodeLength.Statement (.sub_r_r dst src) :=
  show 2 = lengthOf 0x22#8 by decide

theorem EncodeLength.sub_r_Ir (dst : Nibble) (src : Nibble) : EncodeLength.Statement (.sub_r_Ir dst src) :=
  show 2 = lengthOf 0x23#8 by decide

theorem EncodeLength.sub_R_R (dst : Byte) (src : Byte) : EncodeLength.Statement (.sub_R_R dst src) :=
  show 3 = lengthOf 0x24#8 by decide

theorem EncodeLength.sub_R_IR (dst : Byte) (src : Byte) : EncodeLength.Statement (.sub_R_IR dst src) :=
  show 3 = lengthOf 0x25#8 by decide

theorem EncodeLength.sub_R_IM (dst : Byte) (im : Byte) : EncodeLength.Statement (.sub_R_IM dst im) :=
  show 3 = lengthOf 0x26#8 by decide

theorem EncodeLength.sbc_r_r (dst : Nibble) (src : Nibble) : EncodeLength.Statement (.sbc_r_r dst src) :=
  show 2 = lengthOf 0x32#8 by decide

theorem EncodeLength.sbc_r_Ir (dst : Nibble) (src : Nibble) : EncodeLength.Statement (.sbc_r_Ir dst src) :=
  show 2 = lengthOf 0x33#8 by decide

theorem EncodeLength.sbc_R_R (dst : Byte) (src : Byte) : EncodeLength.Statement (.sbc_R_R dst src) :=
  show 3 = lengthOf 0x34#8 by decide

theorem EncodeLength.sbc_R_IR (dst : Byte) (src : Byte) : EncodeLength.Statement (.sbc_R_IR dst src) :=
  show 3 = lengthOf 0x35#8 by decide

theorem EncodeLength.sbc_R_IM (dst : Byte) (im : Byte) : EncodeLength.Statement (.sbc_R_IM dst im) :=
  show 3 = lengthOf 0x36#8 by decide

theorem EncodeLength.or_r_r (dst : Nibble) (src : Nibble) : EncodeLength.Statement (.or_r_r dst src) :=
  show 2 = lengthOf 0x42#8 by decide

theorem EncodeLength.or_r_Ir (dst : Nibble) (src : Nibble) : EncodeLength.Statement (.or_r_Ir dst src) :=
  show 2 = lengthOf 0x43#8 by decide

theorem EncodeLength.or_R_R (dst : Byte) (src : Byte) : EncodeLength.Statement (.or_R_R dst src) :=
  show 3 = lengthOf 0x44#8 by decide

theorem EncodeLength.or_R_IR (dst : Byte) (src : Byte) : EncodeLength.Statement (.or_R_IR dst src) :=
  show 3 = lengthOf 0x45#8 by decide

theorem EncodeLength.or_R_IM (dst : Byte) (im : Byte) : EncodeLength.Statement (.or_R_IM dst im) :=
  show 3 = lengthOf 0x46#8 by decide

theorem EncodeLength.and_r_r (dst : Nibble) (src : Nibble) : EncodeLength.Statement (.and_r_r dst src) :=
  show 2 = lengthOf 0x52#8 by decide

theorem EncodeLength.and_r_Ir (dst : Nibble) (src : Nibble) : EncodeLength.Statement (.and_r_Ir dst src) :=
  show 2 = lengthOf 0x53#8 by decide

theorem EncodeLength.and_R_R (dst : Byte) (src : Byte) : EncodeLength.Statement (.and_R_R dst src) :=
  show 3 = lengthOf 0x54#8 by decide

theorem EncodeLength.and_R_IR (dst : Byte) (src : Byte) : EncodeLength.Statement (.and_R_IR dst src) :=
  show 3 = lengthOf 0x55#8 by decide

theorem EncodeLength.and_R_IM (dst : Byte) (im : Byte) : EncodeLength.Statement (.and_R_IM dst im) :=
  show 3 = lengthOf 0x56#8 by decide

theorem EncodeLength.tcm_r_r (dst : Nibble) (src : Nibble) : EncodeLength.Statement (.tcm_r_r dst src) :=
  show 2 = lengthOf 0x62#8 by decide

theorem EncodeLength.tcm_r_Ir (dst : Nibble) (src : Nibble) : EncodeLength.Statement (.tcm_r_Ir dst src) :=
  show 2 = lengthOf 0x63#8 by decide

theorem EncodeLength.tcm_R_R (dst : Byte) (src : Byte) : EncodeLength.Statement (.tcm_R_R dst src) :=
  show 3 = lengthOf 0x64#8 by decide

theorem EncodeLength.tcm_R_IR (dst : Byte) (src : Byte) : EncodeLength.Statement (.tcm_R_IR dst src) :=
  show 3 = lengthOf 0x65#8 by decide

theorem EncodeLength.tcm_R_IM (dst : Byte) (im : Byte) : EncodeLength.Statement (.tcm_R_IM dst im) :=
  show 3 = lengthOf 0x66#8 by decide

theorem EncodeLength.tm_r_r (dst : Nibble) (src : Nibble) : EncodeLength.Statement (.tm_r_r dst src) :=
  show 2 = lengthOf 0x72#8 by decide

theorem EncodeLength.tm_r_Ir (dst : Nibble) (src : Nibble) : EncodeLength.Statement (.tm_r_Ir dst src) :=
  show 2 = lengthOf 0x73#8 by decide

theorem EncodeLength.tm_R_R (dst : Byte) (src : Byte) : EncodeLength.Statement (.tm_R_R dst src) :=
  show 3 = lengthOf 0x74#8 by decide

theorem EncodeLength.tm_R_IR (dst : Byte) (src : Byte) : EncodeLength.Statement (.tm_R_IR dst src) :=
  show 3 = lengthOf 0x75#8 by decide

theorem EncodeLength.tm_R_IM (dst : Byte) (im : Byte) : EncodeLength.Statement (.tm_R_IM dst im) :=
  show 3 = lengthOf 0x76#8 by decide

theorem EncodeLength.cp_r_r (dst : Nibble) (src : Nibble) : EncodeLength.Statement (.cp_r_r dst src) :=
  show 2 = lengthOf 0xa2#8 by decide

theorem EncodeLength.cp_r_Ir (dst : Nibble) (src : Nibble) : EncodeLength.Statement (.cp_r_Ir dst src) :=
  show 2 = lengthOf 0xa3#8 by decide

theorem EncodeLength.cp_R_R (dst : Byte) (src : Byte) : EncodeLength.Statement (.cp_R_R dst src) :=
  show 3 = lengthOf 0xa4#8 by decide

theorem EncodeLength.cp_R_IR (dst : Byte) (src : Byte) : EncodeLength.Statement (.cp_R_IR dst src) :=
  show 3 = lengthOf 0xa5#8 by decide

theorem EncodeLength.cp_R_IM (dst : Byte) (im : Byte) : EncodeLength.Statement (.cp_R_IM dst im) :=
  show 3 = lengthOf 0xa6#8 by decide

theorem EncodeLength.xor_r_r (dst : Nibble) (src : Nibble) : EncodeLength.Statement (.xor_r_r dst src) :=
  show 2 = lengthOf 0xb2#8 by decide

theorem EncodeLength.xor_r_Ir (dst : Nibble) (src : Nibble) : EncodeLength.Statement (.xor_r_Ir dst src) :=
  show 2 = lengthOf 0xb3#8 by decide

theorem EncodeLength.xor_R_R (dst : Byte) (src : Byte) : EncodeLength.Statement (.xor_R_R dst src) :=
  show 3 = lengthOf 0xb4#8 by decide

theorem EncodeLength.xor_R_IR (dst : Byte) (src : Byte) : EncodeLength.Statement (.xor_R_IR dst src) :=
  show 3 = lengthOf 0xb5#8 by decide

theorem EncodeLength.xor_R_IM (dst : Byte) (im : Byte) : EncodeLength.Statement (.xor_R_IM dst im) :=
  show 3 = lengthOf 0xb6#8 by decide

theorem EncodeLength.dec_R (dst : Byte) : EncodeLength.Statement (.dec_R dst) :=
  show 2 = lengthOf 0x00#8 by decide

theorem EncodeLength.dec_IR (dst : Byte) : EncodeLength.Statement (.dec_IR dst) :=
  show 2 = lengthOf 0x01#8 by decide

theorem EncodeLength.rlc_R (dst : Byte) : EncodeLength.Statement (.rlc_R dst) :=
  show 2 = lengthOf 0x10#8 by decide

theorem EncodeLength.rlc_IR (dst : Byte) : EncodeLength.Statement (.rlc_IR dst) :=
  show 2 = lengthOf 0x11#8 by decide

theorem EncodeLength.inc_R (dst : Byte) : EncodeLength.Statement (.inc_R dst) :=
  show 2 = lengthOf 0x20#8 by decide

theorem EncodeLength.inc_IR (dst : Byte) : EncodeLength.Statement (.inc_IR dst) :=
  show 2 = lengthOf 0x21#8 by decide

theorem EncodeLength.da_R (dst : Byte) : EncodeLength.Statement (.da_R dst) :=
  show 2 = lengthOf 0x40#8 by decide

theorem EncodeLength.da_IR (dst : Byte) : EncodeLength.Statement (.da_IR dst) :=
  show 2 = lengthOf 0x41#8 by decide

theorem EncodeLength.pop_R (dst : Byte) : EncodeLength.Statement (.pop_R dst) :=
  show 2 = lengthOf 0x50#8 by decide

theorem EncodeLength.pop_IR (dst : Byte) : EncodeLength.Statement (.pop_IR dst) :=
  show 2 = lengthOf 0x51#8 by decide

theorem EncodeLength.com_R (dst : Byte) : EncodeLength.Statement (.com_R dst) :=
  show 2 = lengthOf 0x60#8 by decide

theorem EncodeLength.com_IR (dst : Byte) : EncodeLength.Statement (.com_IR dst) :=
  show 2 = lengthOf 0x61#8 by decide

theorem EncodeLength.push_R (src : Byte) : EncodeLength.Statement (.push_R src) :=
  show 2 = lengthOf 0x70#8 by decide

theorem EncodeLength.push_IR (src : Byte) : EncodeLength.Statement (.push_IR src) :=
  show 2 = lengthOf 0x71#8 by decide

theorem EncodeLength.rl_R (dst : Byte) : EncodeLength.Statement (.rl_R dst) :=
  show 2 = lengthOf 0x90#8 by decide

theorem EncodeLength.rl_IR (dst : Byte) : EncodeLength.Statement (.rl_IR dst) :=
  show 2 = lengthOf 0x91#8 by decide

theorem EncodeLength.clr_R (dst : Byte) : EncodeLength.Statement (.clr_R dst) :=
  show 2 = lengthOf 0xb0#8 by decide

theorem EncodeLength.clr_IR (dst : Byte) : EncodeLength.Statement (.clr_IR dst) :=
  show 2 = lengthOf 0xb1#8 by decide

theorem EncodeLength.rrc_R (dst : Byte) : EncodeLength.Statement (.rrc_R dst) :=
  show 2 = lengthOf 0xc0#8 by decide

theorem EncodeLength.rrc_IR (dst : Byte) : EncodeLength.Statement (.rrc_IR dst) :=
  show 2 = lengthOf 0xc1#8 by decide

theorem EncodeLength.sra_R (dst : Byte) : EncodeLength.Statement (.sra_R dst) :=
  show 2 = lengthOf 0xd0#8 by decide

theorem EncodeLength.sra_IR (dst : Byte) : EncodeLength.Statement (.sra_IR dst) :=
  show 2 = lengthOf 0xd1#8 by decide

theorem EncodeLength.rr_R (dst : Byte) : EncodeLength.Statement (.rr_R dst) :=
  show 2 = lengthOf 0xe0#8 by decide

theorem EncodeLength.rr_IR (dst : Byte) : EncodeLength.Statement (.rr_IR dst) :=
  show 2 = lengthOf 0xe1#8 by decide

theorem EncodeLength.swap_R (dst : Byte) : EncodeLength.Statement (.swap_R dst) :=
  show 2 = lengthOf 0xf0#8 by decide

theorem EncodeLength.swap_IR (dst : Byte) : EncodeLength.Statement (.swap_IR dst) :=
  show 2 = lengthOf 0xf1#8 by decide

theorem EncodeLength.decw_RR (dst : Byte) : EncodeLength.Statement (.decw_RR dst) :=
  show 2 = lengthOf 0x80#8 by decide

theorem EncodeLength.decw_IR (dst : Byte) : EncodeLength.Statement (.decw_IR dst) :=
  show 2 = lengthOf 0x81#8 by decide

theorem EncodeLength.incw_RR (dst : Byte) : EncodeLength.Statement (.incw_RR dst) :=
  show 2 = lengthOf 0xa0#8 by decide

theorem EncodeLength.incw_IR (dst : Byte) : EncodeLength.Statement (.incw_IR dst) :=
  show 2 = lengthOf 0xa1#8 by decide

theorem EncodeLength.inc_r (dst : Nibble) : EncodeLength.Statement (.inc_r dst) := (lengthOf_operand dst).2.2.2.2.2.2.symm

theorem EncodeLength.jp_IRR (dst : Byte) : EncodeLength.Statement (.jp_IRR dst) :=
  show 2 = lengthOf 0x30#8 by decide

theorem EncodeLength.srp_IM (im : BitVec 5) (x : BitVec 1) : EncodeLength.Statement (.srp_IM im x) :=
  show 2 = lengthOf 0x31#8 by decide

theorem EncodeLength.srp0_IM (im : BitVec 5) (x : BitVec 1) : EncodeLength.Statement (.srp0_IM im x) :=
  show 2 = lengthOf 0x31#8 by decide

theorem EncodeLength.srp1_IM (im : BitVec 5) (x : BitVec 1) : EncodeLength.Statement (.srp1_IM im x) :=
  show 2 = lengthOf 0x31#8 by decide

theorem EncodeLength.pushud_IR_R (dst : Byte) (src : Byte) : EncodeLength.Statement (.pushud_IR_R dst src) :=
  show 3 = lengthOf 0x82#8 by decide

theorem EncodeLength.pushui_IR_R (dst : Byte) (src : Byte) : EncodeLength.Statement (.pushui_IR_R dst src) :=
  show 3 = lengthOf 0x83#8 by decide

theorem EncodeLength.popud_R_IR (dst : Byte) (src : Byte) : EncodeLength.Statement (.popud_R_IR dst src) :=
  show 3 = lengthOf 0x92#8 by decide

theorem EncodeLength.popui_R_IR (dst : Byte) (src : Byte) : EncodeLength.Statement (.popui_R_IR dst src) :=
  show 3 = lengthOf 0x93#8 by decide

theorem EncodeLength.cpije_r_Ir_RA (dst : Nibble) (src : Nibble) (ra : Byte) : EncodeLength.Statement (.cpije_r_Ir_RA dst src ra) :=
  show 3 = lengthOf 0xc2#8 by decide

theorem EncodeLength.cpijne_r_Ir_RA (dst : Nibble) (src : Nibble) (ra : Byte) : EncodeLength.Statement (.cpijne_r_Ir_RA dst src ra) :=
  show 3 = lengthOf 0xd2#8 by decide

theorem EncodeLength.ldc_r_Irr (dst : Nibble) (p : Tri) : EncodeLength.Statement (.ldc_r_Irr dst p) :=
  show 2 = lengthOf 0xc3#8 by decide

theorem EncodeLength.lde_r_Irr (dst : Nibble) (p : Tri) : EncodeLength.Statement (.lde_r_Irr dst p) :=
  show 2 = lengthOf 0xc3#8 by decide

theorem EncodeLength.ldc_Irr_r (p : Tri) (src : Nibble) : EncodeLength.Statement (.ldc_Irr_r p src) :=
  show 2 = lengthOf 0xd3#8 by decide

theorem EncodeLength.lde_Irr_r (p : Tri) (src : Nibble) : EncodeLength.Statement (.lde_Irr_r p src) :=
  show 2 = lengthOf 0xd3#8 by decide

theorem EncodeLength.ldcd_r_Irr (dst : Nibble) (p : Tri) : EncodeLength.Statement (.ldcd_r_Irr dst p) :=
  show 2 = lengthOf 0xe2#8 by decide

theorem EncodeLength.lded_r_Irr (dst : Nibble) (p : Tri) : EncodeLength.Statement (.lded_r_Irr dst p) :=
  show 2 = lengthOf 0xe2#8 by decide

theorem EncodeLength.ldci_r_Irr (dst : Nibble) (p : Tri) : EncodeLength.Statement (.ldci_r_Irr dst p) :=
  show 2 = lengthOf 0xe3#8 by decide

theorem EncodeLength.ldei_r_Irr (dst : Nibble) (p : Tri) : EncodeLength.Statement (.ldei_r_Irr dst p) :=
  show 2 = lengthOf 0xe3#8 by decide

theorem EncodeLength.ldcpd_Irr_r (p : Tri) (src : Nibble) : EncodeLength.Statement (.ldcpd_Irr_r p src) :=
  show 2 = lengthOf 0xf2#8 by decide

theorem EncodeLength.ldepd_Irr_r (p : Tri) (src : Nibble) : EncodeLength.Statement (.ldepd_Irr_r p src) :=
  show 2 = lengthOf 0xf2#8 by decide

theorem EncodeLength.ldcpi_Irr_r (p : Tri) (src : Nibble) : EncodeLength.Statement (.ldcpi_Irr_r p src) :=
  show 2 = lengthOf 0xf3#8 by decide

theorem EncodeLength.ldepi_Irr_r (p : Tri) (src : Nibble) : EncodeLength.Statement (.ldepi_Irr_r p src) :=
  show 2 = lengthOf 0xf3#8 by decide

theorem EncodeLength.ldc_r_XS (dst : Nibble) (p : Tri) (xs : Byte) : EncodeLength.Statement (.ldc_r_XS dst p xs) :=
  show 3 = lengthOf 0xe7#8 by decide

theorem EncodeLength.lde_r_XS (dst : Nibble) (p : Tri) (xs : Byte) : EncodeLength.Statement (.lde_r_XS dst p xs) :=
  show 3 = lengthOf 0xe7#8 by decide

theorem EncodeLength.ldc_XS_r (p : Tri) (xs : Byte) (src : Nibble) : EncodeLength.Statement (.ldc_XS_r p xs src) :=
  show 3 = lengthOf 0xf7#8 by decide

theorem EncodeLength.lde_XS_r (p : Tri) (xs : Byte) (src : Nibble) : EncodeLength.Statement (.lde_XS_r p xs src) :=
  show 3 = lengthOf 0xf7#8 by decide

theorem EncodeLength.ldc_r_XL (dst : Nibble) (p : Tri) (xl : Word) : EncodeLength.Statement (.ldc_r_XL dst p xl) :=
  show 4 = lengthOf 0xa7#8 by decide

theorem EncodeLength.ldc_XL_r (p : Tri) (xl : Word) (src : Nibble) : EncodeLength.Statement (.ldc_XL_r p xl src) :=
  show 4 = lengthOf 0xb7#8 by decide

theorem EncodeLength.ldc_r_DA (dst : Nibble) (da : Word) : EncodeLength.Statement (.ldc_r_DA dst da) :=
  show 4 = lengthOf 0xa7#8 by decide

theorem EncodeLength.ldc_DA_r (da : Word) (src : Nibble) : EncodeLength.Statement (.ldc_DA_r da src) :=
  show 4 = lengthOf 0xb7#8 by decide

theorem EncodeLength.lde_r_XL (dst : Nibble) (p : Tri) (xl : Word) : EncodeLength.Statement (.lde_r_XL dst p xl) :=
  show 4 = lengthOf 0xa7#8 by decide

theorem EncodeLength.lde_XL_r (p : Tri) (xl : Word) (src : Nibble) : EncodeLength.Statement (.lde_XL_r p xl src) :=
  show 4 = lengthOf 0xb7#8 by decide

theorem EncodeLength.lde_r_DA (dst : Nibble) (da : Word) : EncodeLength.Statement (.lde_r_DA dst da) :=
  show 4 = lengthOf 0xa7#8 by decide

theorem EncodeLength.lde_DA_r (da : Word) (src : Nibble) : EncodeLength.Statement (.lde_DA_r da src) :=
  show 4 = lengthOf 0xb7#8 by decide

theorem EncodeLength.mult_RR_R (dst : Byte) (src : Byte) : EncodeLength.Statement (.mult_RR_R dst src) :=
  show 3 = lengthOf 0x84#8 by decide

theorem EncodeLength.mult_RR_IR (dst : Byte) (src : Byte) : EncodeLength.Statement (.mult_RR_IR dst src) :=
  show 3 = lengthOf 0x85#8 by decide

theorem EncodeLength.mult_RR_IM (dst : Byte) (im : Byte) : EncodeLength.Statement (.mult_RR_IM dst im) :=
  show 3 = lengthOf 0x86#8 by decide

theorem EncodeLength.div_RR_R (dst : Byte) (src : Byte) : EncodeLength.Statement (.div_RR_R dst src) :=
  show 3 = lengthOf 0x94#8 by decide

theorem EncodeLength.div_RR_IR (dst : Byte) (src : Byte) : EncodeLength.Statement (.div_RR_IR dst src) :=
  show 3 = lengthOf 0x95#8 by decide

theorem EncodeLength.div_RR_IM (dst : Byte) (im : Byte) : EncodeLength.Statement (.div_RR_IM dst im) :=
  show 3 = lengthOf 0x96#8 by decide

theorem EncodeLength.ldw_RR_RR (dst : Byte) (src : Byte) : EncodeLength.Statement (.ldw_RR_RR dst src) :=
  show 3 = lengthOf 0xc4#8 by decide

theorem EncodeLength.ldw_RR_IR (dst : Byte) (src : Byte) : EncodeLength.Statement (.ldw_RR_IR dst src) :=
  show 3 = lengthOf 0xc5#8 by decide

theorem EncodeLength.ldw_RR_IML (dst : Byte) (iml : Word) : EncodeLength.Statement (.ldw_RR_IML dst iml) :=
  show 4 = lengthOf 0xc6#8 by decide

theorem EncodeLength.call_IA (ia : Byte) : EncodeLength.Statement (.call_IA ia) :=
  show 2 = lengthOf 0xd4#8 by decide

theorem EncodeLength.call_IRR (dst : Byte) : EncodeLength.Statement (.call_IRR dst) :=
  show 2 = lengthOf 0xf4#8 by decide

theorem EncodeLength.call_DA (da : Word) : EncodeLength.Statement (.call_DA da) :=
  show 3 = lengthOf 0xf6#8 by decide

theorem EncodeLength.ld_IR_IM (dst : Byte) (im : Byte) : EncodeLength.Statement (.ld_IR_IM dst im) :=
  show 3 = lengthOf 0xd6#8 by decide

theorem EncodeLength.ld_R_R (dst : Byte) (src : Byte) : EncodeLength.Statement (.ld_R_R dst src) :=
  show 3 = lengthOf 0xe4#8 by decide

theorem EncodeLength.ld_R_IR (dst : Byte) (src : Byte) : EncodeLength.Statement (.ld_R_IR dst src) :=
  show 3 = lengthOf 0xe5#8 by decide

theorem EncodeLength.ld_R_IM (dst : Byte) (im : Byte) : EncodeLength.Statement (.ld_R_IM dst im) :=
  show 3 = lengthOf 0xe6#8 by decide

theorem EncodeLength.ld_IR_R (dst : Byte) (src : Byte) : EncodeLength.Statement (.ld_IR_R dst src) :=
  show 3 = lengthOf 0xf5#8 by decide

theorem EncodeLength.ld_r_X (dst : Nibble) (x : Byte) (idx : Nibble) : EncodeLength.Statement (.ld_r_X dst x idx) :=
  show 3 = lengthOf 0x87#8 by decide

theorem EncodeLength.ld_X_r (x : Byte) (idx : Nibble) (src : Nibble) : EncodeLength.Statement (.ld_X_r x idx src) :=
  show 3 = lengthOf 0x97#8 by decide

theorem EncodeLength.ld_r_Ir (dst : Nibble) (src : Nibble) : EncodeLength.Statement (.ld_r_Ir dst src) :=
  show 2 = lengthOf 0xc7#8 by decide

theorem EncodeLength.ld_Ir_r (dst : Nibble) (src : Nibble) : EncodeLength.Statement (.ld_Ir_r dst src) :=
  show 2 = lengthOf 0xd7#8 by decide

theorem EncodeLength.ld_r_R (dst : Nibble) (src : Byte) : EncodeLength.Statement (.ld_r_R dst src) := (lengthOf_operand dst).1.symm

theorem EncodeLength.ld_R_r (dst : Byte) (src : Nibble) : EncodeLength.Statement (.ld_R_r dst src) := (lengthOf_operand src).2.1.symm

theorem EncodeLength.djnz_r_RA (n : Nibble) (ra : Byte) : EncodeLength.Statement (.djnz_r_RA n ra) := (lengthOf_operand n).2.2.1.symm

theorem EncodeLength.jr_cc_RA (cc : Cond) (ra : Byte) : EncodeLength.Statement (.jr_cc_RA cc ra) := (lengthOf_operand cc.code).2.2.2.1.symm

theorem EncodeLength.ld_r_IM (dst : Nibble) (im : Byte) : EncodeLength.Statement (.ld_r_IM dst im) := (lengthOf_operand dst).2.2.2.2.1.symm

theorem EncodeLength.jp_cc_DA (cc : Cond) (da : Word) : EncodeLength.Statement (.jp_cc_DA cc da) :=
  (lengthOf_operand cc.code).2.2.2.2.2.1.symm

theorem EncodeLength.bor_r0_Rb (dst : Nibble) (src : Byte) (b : Tri) : EncodeLength.Statement (.bor_r0_Rb dst src b) :=
  show 3 = lengthOf 0x07#8 by decide

theorem EncodeLength.bor_Rb_r0 (dst : Byte) (b : Tri) (src : Nibble) : EncodeLength.Statement (.bor_Rb_r0 dst b src) :=
  show 3 = lengthOf 0x07#8 by decide

theorem EncodeLength.bcp_r0_Rb (dst : Nibble) (src : Byte) (b : Tri) : EncodeLength.Statement (.bcp_r0_Rb dst src b) :=
  show 3 = lengthOf 0x17#8 by decide

theorem EncodeLength.bxor_r0_Rb (dst : Nibble) (src : Byte) (b : Tri) : EncodeLength.Statement (.bxor_r0_Rb dst src b) :=
  show 3 = lengthOf 0x27#8 by decide

theorem EncodeLength.bxor_Rb_r0 (dst : Byte) (b : Tri) (src : Nibble) : EncodeLength.Statement (.bxor_Rb_r0 dst b src) :=
  show 3 = lengthOf 0x27#8 by decide

theorem EncodeLength.btjrf_RA_rb (ra : Byte) (src : Nibble) (b : Tri) : EncodeLength.Statement (.btjrf_RA_rb ra src b) :=
  show 3 = lengthOf 0x37#8 by decide

theorem EncodeLength.btjrt_RA_rb (ra : Byte) (src : Nibble) (b : Tri) : EncodeLength.Statement (.btjrt_RA_rb ra src b) :=
  show 3 = lengthOf 0x37#8 by decide

theorem EncodeLength.ldb_r0_Rb (dst : Nibble) (src : Byte) (b : Tri) : EncodeLength.Statement (.ldb_r0_Rb dst src b) :=
  show 3 = lengthOf 0x47#8 by decide

theorem EncodeLength.ldb_Rb_r0 (dst : Byte) (b : Tri) (src : Nibble) : EncodeLength.Statement (.ldb_Rb_r0 dst b src) :=
  show 3 = lengthOf 0x47#8 by decide

theorem EncodeLength.bitc_rb (dst : Nibble) (b : Tri) : EncodeLength.Statement (.bitc_rb dst b) :=
  show 2 = lengthOf 0x57#8 by decide

theorem EncodeLength.band_r0_Rb (dst : Nibble) (src : Byte) (b : Tri) : EncodeLength.Statement (.band_r0_Rb dst src b) :=
  show 3 = lengthOf 0x67#8 by decide

theorem EncodeLength.band_Rb_r0 (dst : Byte) (b : Tri) (src : Nibble) : EncodeLength.Statement (.band_Rb_r0 dst b src) :=
  show 3 = lengthOf 0x67#8 by decide

theorem EncodeLength.bitr_rb (dst : Nibble) (b : Tri) : EncodeLength.Statement (.bitr_rb dst b) :=
  show 2 = lengthOf 0x77#8 by decide

theorem EncodeLength.bits_rb (dst : Nibble) (b : Tri) : EncodeLength.Statement (.bits_rb dst b) :=
  show 2 = lengthOf 0x77#8 by decide

theorem EncodeLength.next : EncodeLength.Statement .next :=
  show 1 = lengthOf 0x0f#8 by decide

theorem EncodeLength.enter : EncodeLength.Statement .enter :=
  show 1 = lengthOf 0x1f#8 by decide

theorem EncodeLength.exit : EncodeLength.Statement .exit :=
  show 1 = lengthOf 0x2f#8 by decide

theorem EncodeLength.wfi : EncodeLength.Statement .wfi :=
  show 1 = lengthOf 0x3f#8 by decide

theorem EncodeLength.sb0 : EncodeLength.Statement .sb0 :=
  show 1 = lengthOf 0x4f#8 by decide

theorem EncodeLength.sb1 : EncodeLength.Statement .sb1 :=
  show 1 = lengthOf 0x5f#8 by decide

theorem EncodeLength.idle : EncodeLength.Statement .idle :=
  show 1 = lengthOf 0x6f#8 by decide

theorem EncodeLength.stop : EncodeLength.Statement .stop :=
  show 1 = lengthOf 0x7f#8 by decide

theorem EncodeLength.di : EncodeLength.Statement .di :=
  show 1 = lengthOf 0x8f#8 by decide

theorem EncodeLength.ei : EncodeLength.Statement .ei :=
  show 1 = lengthOf 0x9f#8 by decide

theorem EncodeLength.ret : EncodeLength.Statement .ret :=
  show 1 = lengthOf 0xaf#8 by decide

theorem EncodeLength.iret : EncodeLength.Statement .iret :=
  show 1 = lengthOf 0xbf#8 by decide

theorem EncodeLength.rcf : EncodeLength.Statement .rcf :=
  show 1 = lengthOf 0xcf#8 by decide

theorem EncodeLength.scf : EncodeLength.Statement .scf :=
  show 1 = lengthOf 0xdf#8 by decide

theorem EncodeLength.ccf : EncodeLength.Statement .ccf :=
  show 1 = lengthOf 0xef#8 by decide

theorem EncodeLength.nop : EncodeLength.Statement .nop :=
  show 1 = lengthOf 0xff#8 by decide

end Sys2Proof.Laws
end

