-- ==== Sys2Proof/Tests/Slice0.lean ====
section
/-! SUPPORT. The model's own tests: what WellFormed refuses, the decoding of a word of every row of the encoding tables, the vectors of
95_test_vectors.md (their expected values are the spec's, worked by hand there), and for every obligation with hypotheses a state and
operands that meet them. -/

namespace Sys2Proof.Tests

open Sys2Proof.Machine

/-! ## What is not well formed, one term for each check -/

theorem test_wellFormed_refuses :
    (Instr.decw_RR 0x41#8).wellFormed = false ∧ (Instr.incw_RR 0x41#8).wellFormed = false
      ∧ (Instr.jp_IRR 0x41#8).wellFormed = false ∧ (Instr.call_IRR 0x41#8).wellFormed = false
      ∧ (Instr.call_IA 0x41#8).wellFormed = false ∧ (Instr.mult_RR_R 0x41#8 0x40#8).wellFormed = false
      ∧ (Instr.mult_RR_IR 0x41#8 0x40#8).wellFormed = false ∧ (Instr.mult_RR_IM 0x41#8 0x40#8).wellFormed = false
      ∧ (Instr.div_RR_R 0x41#8 0x40#8).wellFormed = false ∧ (Instr.div_RR_IR 0x41#8 0x40#8).wellFormed = false
      ∧ (Instr.div_RR_IM 0x41#8 0x40#8).wellFormed = false ∧ (Instr.ldw_RR_RR 0x41#8 0x40#8).wellFormed = false
      ∧ (Instr.ldw_RR_RR 0x40#8 0x41#8).wellFormed = false ∧ (Instr.ldw_RR_IR 0x41#8 0x40#8).wellFormed = false
      ∧ (Instr.ldw_RR_IML 0x41#8 0x4041#16).wellFormed = false ∧ (Instr.ldc_r_XL 1#4 0#3 0x1234#16).wellFormed = false
      ∧ (Instr.ldc_XL_r 0#3 0x1234#16 1#4).wellFormed = false ∧ (Instr.lde_r_XL 1#4 0#3 0x1234#16).wellFormed = false
      ∧ (Instr.lde_XL_r 0#3 0x1234#16 1#4).wellFormed = false := by decide

theorem test_wellFormed_accepts :
    (Instr.decw_RR 0x40#8).wellFormed = true ∧ (Instr.call_IA 0x40#8).wellFormed = true
      ∧ (Instr.ldw_RR_RR 0x40#8 0x42#8).wellFormed = true ∧ (Instr.ldc_r_XL 1#4 1#3 0x1234#16).wellFormed = true := by decide

/-! ## A word of every row, written out from the encoding column of spec/opcode_table.json -/

theorem test_words_add_adc_sub_sbc :
    decode [0x02#8, 0xA5#8] = .ok (.add_r_r 0xA#4 0x5#4, [])
      ∧ decode [0x03#8, 0xA5#8] = .ok (.add_r_Ir 0xA#4 0x5#4, [])
      ∧ decode [0x04#8, 0x3E#8, 0x6D#8] = .ok (.add_R_R 0x6D#8 0x3E#8, [])
      ∧ decode [0x05#8, 0x3E#8, 0x6D#8] = .ok (.add_R_IR 0x6D#8 0x3E#8, [])
      ∧ decode [0x06#8, 0x6D#8, 0x9B#8] = .ok (.add_R_IM 0x6D#8 0x9B#8, [])
      ∧ decode [0x12#8, 0xA5#8] = .ok (.adc_r_r 0xA#4 0x5#4, [])
      ∧ decode [0x13#8, 0xA5#8] = .ok (.adc_r_Ir 0xA#4 0x5#4, [])
      ∧ decode [0x14#8, 0x3E#8, 0x6D#8] = .ok (.adc_R_R 0x6D#8 0x3E#8, [])
      ∧ decode [0x15#8, 0x3E#8, 0x6D#8] = .ok (.adc_R_IR 0x6D#8 0x3E#8, [])
      ∧ decode [0x16#8, 0x6D#8, 0x9B#8] = .ok (.adc_R_IM 0x6D#8 0x9B#8, [])
      ∧ decode [0x22#8, 0xA5#8] = .ok (.sub_r_r 0xA#4 0x5#4, [])
      ∧ decode [0x23#8, 0xA5#8] = .ok (.sub_r_Ir 0xA#4 0x5#4, [])
      ∧ decode [0x24#8, 0x3E#8, 0x6D#8] = .ok (.sub_R_R 0x6D#8 0x3E#8, [])
      ∧ decode [0x25#8, 0x3E#8, 0x6D#8] = .ok (.sub_R_IR 0x6D#8 0x3E#8, [])
      ∧ decode [0x26#8, 0x6D#8, 0x9B#8] = .ok (.sub_R_IM 0x6D#8 0x9B#8, [])
      ∧ decode [0x32#8, 0xA5#8] = .ok (.sbc_r_r 0xA#4 0x5#4, [])
      ∧ decode [0x33#8, 0xA5#8] = .ok (.sbc_r_Ir 0xA#4 0x5#4, [])
      ∧ decode [0x34#8, 0x3E#8, 0x6D#8] = .ok (.sbc_R_R 0x6D#8 0x3E#8, [])
      ∧ decode [0x35#8, 0x3E#8, 0x6D#8] = .ok (.sbc_R_IR 0x6D#8 0x3E#8, [])
      ∧ decode [0x36#8, 0x6D#8, 0x9B#8] = .ok (.sbc_R_IM 0x6D#8 0x9B#8, []) :=
  ⟨rfl, rfl, rfl, rfl, rfl, rfl, rfl, rfl, rfl, rfl, rfl, rfl, rfl, rfl, rfl, rfl, rfl, rfl, rfl, rfl⟩

theorem test_words_or_and_tcm_tm :
    decode [0x42#8, 0xA5#8] = .ok (.or_r_r 0xA#4 0x5#4, [])
      ∧ decode [0x43#8, 0xA5#8] = .ok (.or_r_Ir 0xA#4 0x5#4, [])
      ∧ decode [0x44#8, 0x3E#8, 0x6D#8] = .ok (.or_R_R 0x6D#8 0x3E#8, [])
      ∧ decode [0x45#8, 0x3E#8, 0x6D#8] = .ok (.or_R_IR 0x6D#8 0x3E#8, [])
      ∧ decode [0x46#8, 0x6D#8, 0x9B#8] = .ok (.or_R_IM 0x6D#8 0x9B#8, [])
      ∧ decode [0x52#8, 0xA5#8] = .ok (.and_r_r 0xA#4 0x5#4, [])
      ∧ decode [0x53#8, 0xA5#8] = .ok (.and_r_Ir 0xA#4 0x5#4, [])
      ∧ decode [0x54#8, 0x3E#8, 0x6D#8] = .ok (.and_R_R 0x6D#8 0x3E#8, [])
      ∧ decode [0x55#8, 0x3E#8, 0x6D#8] = .ok (.and_R_IR 0x6D#8 0x3E#8, [])
      ∧ decode [0x56#8, 0x6D#8, 0x9B#8] = .ok (.and_R_IM 0x6D#8 0x9B#8, [])
      ∧ decode [0x62#8, 0xA5#8] = .ok (.tcm_r_r 0xA#4 0x5#4, [])
      ∧ decode [0x63#8, 0xA5#8] = .ok (.tcm_r_Ir 0xA#4 0x5#4, [])
      ∧ decode [0x64#8, 0x3E#8, 0x6D#8] = .ok (.tcm_R_R 0x6D#8 0x3E#8, [])
      ∧ decode [0x65#8, 0x3E#8, 0x6D#8] = .ok (.tcm_R_IR 0x6D#8 0x3E#8, [])
      ∧ decode [0x66#8, 0x6D#8, 0x9B#8] = .ok (.tcm_R_IM 0x6D#8 0x9B#8, [])
      ∧ decode [0x72#8, 0xA5#8] = .ok (.tm_r_r 0xA#4 0x5#4, [])
      ∧ decode [0x73#8, 0xA5#8] = .ok (.tm_r_Ir 0xA#4 0x5#4, [])
      ∧ decode [0x74#8, 0x3E#8, 0x6D#8] = .ok (.tm_R_R 0x6D#8 0x3E#8, [])
      ∧ decode [0x75#8, 0x3E#8, 0x6D#8] = .ok (.tm_R_IR 0x6D#8 0x3E#8, [])
      ∧ decode [0x76#8, 0x6D#8, 0x9B#8] = .ok (.tm_R_IM 0x6D#8 0x9B#8, []) :=
  ⟨rfl, rfl, rfl, rfl, rfl, rfl, rfl, rfl, rfl, rfl, rfl, rfl, rfl, rfl, rfl, rfl, rfl, rfl, rfl, rfl⟩

theorem test_words_cp_xor :
    decode [0xA2#8, 0xA5#8] = .ok (.cp_r_r 0xA#4 0x5#4, [])
      ∧ decode [0xA3#8, 0xA5#8] = .ok (.cp_r_Ir 0xA#4 0x5#4, [])
      ∧ decode [0xA4#8, 0x3E#8, 0x6D#8] = .ok (.cp_R_R 0x6D#8 0x3E#8, [])
      ∧ decode [0xA5#8, 0x3E#8, 0x6D#8] = .ok (.cp_R_IR 0x6D#8 0x3E#8, [])
      ∧ decode [0xA6#8, 0x6D#8, 0x9B#8] = .ok (.cp_R_IM 0x6D#8 0x9B#8, [])
      ∧ decode [0xB2#8, 0xA5#8] = .ok (.xor_r_r 0xA#4 0x5#4, [])
      ∧ decode [0xB3#8, 0xA5#8] = .ok (.xor_r_Ir 0xA#4 0x5#4, [])
      ∧ decode [0xB4#8, 0x3E#8, 0x6D#8] = .ok (.xor_R_R 0x6D#8 0x3E#8, [])
      ∧ decode [0xB5#8, 0x3E#8, 0x6D#8] = .ok (.xor_R_IR 0x6D#8 0x3E#8, [])
      ∧ decode [0xB6#8, 0x6D#8, 0x9B#8] = .ok (.xor_R_IM 0x6D#8 0x9B#8, []) :=
  ⟨rfl, rfl, rfl, rfl, rfl, rfl, rfl, rfl, rfl, rfl⟩

theorem test_words_dec_to_rl :
    decode [0x00#8, 0x6D#8] = .ok (.dec_R 0x6D#8, [])
      ∧ decode [0x01#8, 0x6D#8] = .ok (.dec_IR 0x6D#8, [])
      ∧ decode [0x10#8, 0x6D#8] = .ok (.rlc_R 0x6D#8, [])
      ∧ decode [0x11#8, 0x6D#8] = .ok (.rlc_IR 0x6D#8, [])
      ∧ decode [0x20#8, 0x6D#8] = .ok (.inc_R 0x6D#8, [])
      ∧ decode [0x21#8, 0x6D#8] = .ok (.inc_IR 0x6D#8, [])
      ∧ decode [0x40#8, 0x6D#8] = .ok (.da_R 0x6D#8, [])
      ∧ decode [0x41#8, 0x6D#8] = .ok (.da_IR 0x6D#8, [])
      ∧ decode [0x50#8, 0x6D#8] = .ok (.pop_R 0x6D#8, [])
      ∧ decode [0x51#8, 0x6D#8] = .ok (.pop_IR 0x6D#8, [])
      ∧ decode [0x60#8, 0x6D#8] = .ok (.com_R 0x6D#8, [])
      ∧ decode [0x61#8, 0x6D#8] = .ok (.com_IR 0x6D#8, [])
      ∧ decode [0x70#8, 0x6D#8] = .ok (.push_R 0x6D#8, [])
      ∧ decode [0x71#8, 0x6D#8] = .ok (.push_IR 0x6D#8, [])
      ∧ decode [0x90#8, 0x6D#8] = .ok (.rl_R 0x6D#8, [])
      ∧ decode [0x91#8, 0x6D#8] = .ok (.rl_IR 0x6D#8, []) :=
  ⟨rfl, rfl, rfl, rfl, rfl, rfl, rfl, rfl, rfl, rfl, rfl, rfl, rfl, rfl, rfl, rfl⟩

theorem test_words_clr_to_incw :
    decode [0xB0#8, 0x6D#8] = .ok (.clr_R 0x6D#8, [])
      ∧ decode [0xB1#8, 0x6D#8] = .ok (.clr_IR 0x6D#8, [])
      ∧ decode [0xC0#8, 0x6D#8] = .ok (.rrc_R 0x6D#8, [])
      ∧ decode [0xC1#8, 0x6D#8] = .ok (.rrc_IR 0x6D#8, [])
      ∧ decode [0xD0#8, 0x6D#8] = .ok (.sra_R 0x6D#8, [])
      ∧ decode [0xD1#8, 0x6D#8] = .ok (.sra_IR 0x6D#8, [])
      ∧ decode [0xE0#8, 0x6D#8] = .ok (.rr_R 0x6D#8, [])
      ∧ decode [0xE1#8, 0x6D#8] = .ok (.rr_IR 0x6D#8, [])
      ∧ decode [0xF0#8, 0x6D#8] = .ok (.swap_R 0x6D#8, [])
      ∧ decode [0xF1#8, 0x6D#8] = .ok (.swap_IR 0x6D#8, [])
      ∧ decode [0x80#8, 0x6C#8] = .ok (.decw_RR 0x6C#8, [])
      ∧ decode [0x81#8, 0x6D#8] = .ok (.decw_IR 0x6D#8, [])
      ∧ decode [0xA0#8, 0x6C#8] = .ok (.incw_RR 0x6C#8, [])
      ∧ decode [0xA1#8, 0x6D#8] = .ok (.incw_IR 0x6D#8, []) :=
  ⟨rfl, rfl, rfl, rfl, rfl, rfl, rfl, rfl, rfl, rfl, rfl, rfl, rfl, rfl⟩

theorem test_words_inc_r_to_lde :
    decode [0xAE#8] = .ok (.inc_r 0xA#4, [])
      ∧ decode [0x30#8, 0x6C#8] = .ok (.jp_IRR 0x6C#8, [])
      ∧ decode [0x31#8, 0xB4#8] = .ok (.srp_IM 0x16#5 1#1, [])
      ∧ decode [0x31#8, 0xB6#8] = .ok (.srp0_IM 0x16#5 1#1, [])
      ∧ decode [0x31#8, 0xB5#8] = .ok (.srp1_IM 0x16#5 1#1, [])
      ∧ decode [0x82#8, 0x6D#8, 0x3E#8] = .ok (.pushud_IR_R 0x6D#8 0x3E#8, [])
      ∧ decode [0x83#8, 0x6D#8, 0x3E#8] = .ok (.pushui_IR_R 0x6D#8 0x3E#8, [])
      ∧ decode [0x92#8, 0x3E#8, 0x6D#8] = .ok (.popud_R_IR 0x6D#8 0x3E#8, [])
      ∧ decode [0x93#8, 0x3E#8, 0x6D#8] = .ok (.popui_R_IR 0x6D#8 0x3E#8, [])
      ∧ decode [0xC2#8, 0x5A#8, 0xD7#8] = .ok (.cpije_r_Ir_RA 0xA#4 0x5#4 0xD7#8, [])
      ∧ decode [0xD2#8, 0x5A#8, 0xD7#8] = .ok (.cpijne_r_Ir_RA 0xA#4 0x5#4 0xD7#8, [])
      ∧ decode [0xC3#8, 0xA6#8] = .ok (.ldc_r_Irr 0xA#4 3#3, [])
      ∧ decode [0xC3#8, 0xA7#8] = .ok (.lde_r_Irr 0xA#4 3#3, []) :=
  ⟨rfl, rfl, rfl, rfl, rfl, rfl, rfl, rfl, rfl, rfl, rfl, rfl, rfl⟩

theorem test_words_ldc_to_lde_xs :
    decode [0xD3#8, 0x56#8] = .ok (.ldc_Irr_r 3#3 0x5#4, [])
      ∧ decode [0xD3#8, 0x57#8] = .ok (.lde_Irr_r 3#3 0x5#4, [])
      ∧ decode [0xE2#8, 0xA6#8] = .ok (.ldcd_r_Irr 0xA#4 3#3, [])
      ∧ decode [0xE2#8, 0xA7#8] = .ok (.lded_r_Irr 0xA#4 3#3, [])
      ∧ decode [0xE3#8, 0xA6#8] = .ok (.ldci_r_Irr 0xA#4 3#3, [])
      ∧ decode [0xE3#8, 0xA7#8] = .ok (.ldei_r_Irr 0xA#4 3#3, [])
      ∧ decode [0xF2#8, 0x56#8] = .ok (.ldcpd_Irr_r 3#3 0x5#4, [])
      ∧ decode [0xF2#8, 0x57#8] = .ok (.ldepd_Irr_r 3#3 0x5#4, [])
      ∧ decode [0xF3#8, 0x56#8] = .ok (.ldcpi_Irr_r 3#3 0x5#4, [])
      ∧ decode [0xF3#8, 0x57#8] = .ok (.ldepi_Irr_r 3#3 0x5#4, [])
      ∧ decode [0xE7#8, 0xA6#8, 0xF1#8] = .ok (.ldc_r_XS 0xA#4 3#3 0xF1#8, [])
      ∧ decode [0xE7#8, 0xA7#8, 0xF1#8] = .ok (.lde_r_XS 0xA#4 3#3 0xF1#8, []) :=
  ⟨rfl, rfl, rfl, rfl, rfl, rfl, rfl, rfl, rfl, rfl, rfl, rfl⟩

theorem test_words_xs_xl_da_mult :
    decode [0xF7#8, 0x56#8, 0xF1#8] = .ok (.ldc_XS_r 3#3 0xF1#8 0x5#4, [])
      ∧ decode [0xF7#8, 0x57#8, 0xF1#8] = .ok (.lde_XS_r 3#3 0xF1#8 0x5#4, [])
      ∧ decode [0xA7#8, 0xA6#8, 0x34#8, 0x12#8] = .ok (.ldc_r_XL 0xA#4 3#3 0x1234#16, [])
      ∧ decode [0xB7#8, 0x56#8, 0x34#8, 0x12#8] = .ok (.ldc_XL_r 3#3 0x1234#16 0x5#4, [])
      ∧ decode [0xA7#8, 0xA0#8, 0x34#8, 0x12#8] = .ok (.ldc_r_DA 0xA#4 0x1234#16, [])
      ∧ decode [0xB7#8, 0x50#8, 0x34#8, 0x12#8] = .ok (.ldc_DA_r 0x1234#16 0x5#4, [])
      ∧ decode [0xA7#8, 0xA7#8, 0x34#8, 0x12#8] = .ok (.lde_r_XL 0xA#4 3#3 0x1234#16, [])
      ∧ decode [0xB7#8, 0x57#8, 0x34#8, 0x12#8] = .ok (.lde_XL_r 3#3 0x1234#16 0x5#4, [])
      ∧ decode [0xA7#8, 0xA1#8, 0x34#8, 0x12#8] = .ok (.lde_r_DA 0xA#4 0x1234#16, [])
      ∧ decode [0xB7#8, 0x51#8, 0x34#8, 0x12#8] = .ok (.lde_DA_r 0x1234#16 0x5#4, [])
      ∧ decode [0x84#8, 0x3E#8, 0x6C#8] = .ok (.mult_RR_R 0x6C#8 0x3E#8, [])
      ∧ decode [0x85#8, 0x3E#8, 0x6C#8] = .ok (.mult_RR_IR 0x6C#8 0x3E#8, []) :=
  ⟨rfl, rfl, rfl, rfl, rfl, rfl, rfl, rfl, rfl, rfl, rfl, rfl⟩

theorem test_words_mult_div_ldw_call :
    decode [0x86#8, 0x9B#8, 0x6C#8] = .ok (.mult_RR_IM 0x6C#8 0x9B#8, [])
      ∧ decode [0x94#8, 0x3E#8, 0x6C#8] = .ok (.div_RR_R 0x6C#8 0x3E#8, [])
      ∧ decode [0x95#8, 0x3E#8, 0x6C#8] = .ok (.div_RR_IR 0x6C#8 0x3E#8, [])
      ∧ decode [0x96#8, 0x9B#8, 0x6C#8] = .ok (.div_RR_IM 0x6C#8 0x9B#8, [])
      ∧ decode [0xC4#8, 0x3E#8, 0x6C#8] = .ok (.ldw_RR_RR 0x6C#8 0x3E#8, [])
      ∧ decode [0xC5#8, 0x3E#8, 0x6C#8] = .ok (.ldw_RR_IR 0x6C#8 0x3E#8, [])
      ∧ decode [0xC6#8, 0x6C#8, 0x12#8, 0x34#8] = .ok (.ldw_RR_IML 0x6C#8 0x1234#16, [])
      ∧ decode [0xD4#8, 0x9E#8] = .ok (.call_IA 0x9E#8, [])
      ∧ decode [0xF4#8, 0x6C#8] = .ok (.call_IRR 0x6C#8, [])
      ∧ decode [0xF6#8, 0x12#8, 0x34#8] = .ok (.call_DA 0x1234#16, []) :=
  ⟨rfl, rfl, rfl, rfl, rfl, rfl, rfl, rfl, rfl, rfl⟩

theorem test_words_ld_djnz :
    decode [0xD6#8, 0x6D#8, 0x9B#8] = .ok (.ld_IR_IM 0x6D#8 0x9B#8, [])
      ∧ decode [0xE4#8, 0x3E#8, 0x6D#8] = .ok (.ld_R_R 0x6D#8 0x3E#8, [])
      ∧ decode [0xE5#8, 0x3E#8, 0x6D#8] = .ok (.ld_R_IR 0x6D#8 0x3E#8, [])
      ∧ decode [0xE6#8, 0x6D#8, 0x9B#8] = .ok (.ld_R_IM 0x6D#8 0x9B#8, [])
      ∧ decode [0xF5#8, 0x3E#8, 0x6D#8] = .ok (.ld_IR_R 0x6D#8 0x3E#8, [])
      ∧ decode [0x87#8, 0xA5#8, 0xF1#8] = .ok (.ld_r_X 0xA#4 0xF1#8 0x5#4, [])
      ∧ decode [0x97#8, 0x5A#8, 0xF1#8] = .ok (.ld_X_r 0xF1#8 0xA#4 0x5#4, [])
      ∧ decode [0xC7#8, 0xA5#8] = .ok (.ld_r_Ir 0xA#4 0x5#4, [])
      ∧ decode [0xD7#8, 0xA5#8] = .ok (.ld_Ir_r 0xA#4 0x5#4, [])
      ∧ decode [0xA8#8, 0x3E#8] = .ok (.ld_r_R 0xA#4 0x3E#8, [])
      ∧ decode [0x59#8, 0x6D#8] = .ok (.ld_R_r 0x6D#8 0x5#4, [])
      ∧ decode [0xBA#8, 0xD7#8] = .ok (.djnz_r_RA 0xB#4 0xD7#8, []) :=
  ⟨rfl, rfl, rfl, rfl, rfl, rfl, rfl, rfl, rfl, rfl, rfl, rfl⟩

theorem test_words_bits_and_jumps :
    decode [0x9B#8, 0xD7#8] = .ok (.jr_cc_RA .ge 0xD7#8, [])
      ∧ decode [0xAC#8, 0x9B#8] = .ok (.ld_r_IM 0xA#4 0x9B#8, [])
      ∧ decode [0x9D#8, 0x12#8, 0x34#8] = .ok (.jp_cc_DA .ge 0x1234#16, [])
      ∧ decode [0x07#8, 0xAA#8, 0x3E#8] = .ok (.bor_r0_Rb 0xA#4 0x3E#8 5#3, [])
      ∧ decode [0x07#8, 0x5B#8, 0x6D#8] = .ok (.bor_Rb_r0 0x6D#8 5#3 0x5#4, [])
      ∧ decode [0x17#8, 0xAA#8, 0x3E#8] = .ok (.bcp_r0_Rb 0xA#4 0x3E#8 5#3, [])
      ∧ decode [0x27#8, 0xAA#8, 0x3E#8] = .ok (.bxor_r0_Rb 0xA#4 0x3E#8 5#3, [])
      ∧ decode [0x27#8, 0x5B#8, 0x6D#8] = .ok (.bxor_Rb_r0 0x6D#8 5#3 0x5#4, [])
      ∧ decode [0x37#8, 0x5A#8, 0xD7#8] = .ok (.btjrf_RA_rb 0xD7#8 0x5#4 5#3, [])
      ∧ decode [0x37#8, 0x5B#8, 0xD7#8] = .ok (.btjrt_RA_rb 0xD7#8 0x5#4 5#3, [])
      ∧ decode [0x47#8, 0xAA#8, 0x3E#8] = .ok (.ldb_r0_Rb 0xA#4 0x3E#8 5#3, [])
      ∧ decode [0x47#8, 0x5B#8, 0x6D#8] = .ok (.ldb_Rb_r0 0x6D#8 5#3 0x5#4, [])
      ∧ decode [0x57#8, 0xAA#8] = .ok (.bitc_rb 0xA#4 5#3, [])
      ∧ decode [0x67#8, 0xAA#8, 0x3E#8] = .ok (.band_r0_Rb 0xA#4 0x3E#8 5#3, [])
      ∧ decode [0x67#8, 0x5B#8, 0x6D#8] = .ok (.band_Rb_r0 0x6D#8 5#3 0x5#4, [])
      ∧ decode [0x77#8, 0xAA#8] = .ok (.bitr_rb 0xA#4 5#3, [])
      ∧ decode [0x77#8, 0xAB#8] = .ok (.bits_rb 0xA#4 5#3, []) :=
  ⟨rfl, rfl, rfl, rfl, rfl, rfl, rfl, rfl, rfl, rfl, rfl, rfl, rfl, rfl, rfl, rfl, rfl⟩

theorem test_words_one_byte :
    decode [0x0F#8] = .ok (.next, [])
      ∧ decode [0x1F#8] = .ok (.enter, [])
      ∧ decode [0x2F#8] = .ok (.exit, [])
      ∧ decode [0x3F#8] = .ok (.wfi, [])
      ∧ decode [0x4F#8] = .ok (.sb0, [])
      ∧ decode [0x5F#8] = .ok (.sb1, [])
      ∧ decode [0x6F#8] = .ok (.idle, [])
      ∧ decode [0x7F#8] = .ok (.stop, [])
      ∧ decode [0x8F#8] = .ok (.di, [])
      ∧ decode [0x9F#8] = .ok (.ei, [])
      ∧ decode [0xAF#8] = .ok (.ret, [])
      ∧ decode [0xBF#8] = .ok (.iret, [])
      ∧ decode [0xCF#8] = .ok (.rcf, [])
      ∧ decode [0xDF#8] = .ok (.scf, [])
      ∧ decode [0xEF#8] = .ok (.ccf, [])
      ∧ decode [0xFF#8] = .ok (.nop, []) :=
  ⟨rfl, rfl, rfl, rfl, rfl, rfl, rfl, rfl, rfl, rfl, rfl, rfl, rfl, rfl, rfl, rfl⟩

/-! ## The encodings without an instruction (30_encoding.md R88; vectors B6, J15, J23, K11) -/

theorem test_words_rejected :
    decode [0xD5#8, 0x00#8] = .error .illegalOpcode ∧ decode [0x17#8, 0x13#8, 0x01#8] = .error .illegalOpcode
      ∧ decode [0x57#8, 0x13#8] = .error .illegalOpcode ∧ decode [0x31#8, 0x43#8] = .error .illegalOpcode
      ∧ decode [0xD4#8, 0x41#8] = .error .oddTableAddress ∧ decode [0xA0#8, 0xC1#8] = .error .oddPair
      ∧ decode [0x84#8, 0xC2#8, 0xC1#8] = .error .oddPair ∧ decode [0xC4#8, 0xC5#8, 0xC6#8] = .error .oddPair
      ∧ decode [0xF6#8, 0x35#8] = .error .truncated :=
  ⟨rfl, rfl, rfl, rfl, rfl, rfl, rfl, rfl, rfl⟩

/-! ## One step on a small state -/

/-- The reset state with some bytes written to places: working register n is `Common[C0H + n]` (95_test_vectors.md, notation). -/
def given (ws : List Write) : State := ws.foldl (fun s w => s.poke w.1 w.2) State.reset

/-- `Common[C0H + n]`. -/
def r (n : Nibble) : Loc := .common n

/-- `RegI[a]` of page 0. -/
def m (a : Byte) : Loc := .ram 0#4 a

/-- A state with some bytes of program memory. -/
def withRom (s : State) (a : Nat) (bytes : List Byte) : State := s.setRom (storeProgram s.rom a bytes)

/-- The instruction of some bytes, executed with pc past it. -/
def runs (bytes : List Byte) (s : State) : Option State :=
  match decode bytes with
  | .ok (i, _) =>
    match exec i (s.setPc (s.pc + BitVec.ofNat 16 bytes.length)) with
    | .next t => some t
    | .fault _ => none
    | .refused _ => none
  | .error _ => none

/-- What some places hold after the instruction of some bytes. -/
def leaves (bytes : List Byte) (s : State) (ls : List Loc) : Option (List Byte) := (runs bytes s).map (fun t => ls.map t.stored)

/-- `leaves` for one place and FLAGS. -/
def flagged (bytes : List Byte) (s : State) (l : Loc) : Option (Byte × Byte) := (runs bytes s).map (fun t => (t.stored l, t.flags))

/-- `pc` after the instruction of some bytes at an address. -/
def goes (bytes : List Byte) (a : Word) (s : State) : Option Word := (runs bytes (s.setPc a)).map State.pc

/-- FLAGS set to a byte. -/
def f (v : Byte) : Write := (.sys .flags, v)

/-- SPL set to a byte. -/
def sp (v : Byte) : Write := (.sys .spl, v)

/-! ### Load (40_load.md; vectors L) -/

/-- L1. -/
theorem test_ld_r_IM :
    leaves [0x2C#8, 0x7F#8] (given []) [r 2#4]
      = some [0x7F#8] := by decide

/-- L2: C0H in an operand byte is r0. -/
theorem test_ld_R_R_escape :
    leaves [0xE4#8, 0xC0#8, 0x42#8] (given [(.sys .rp0, 0x40#8), (.sys .rp1, 0x48#8), (m 0x40#8, 0x11#8)]) [m 0x42#8, r 0#4]
      = some [0x11#8, 0x00#8] := by decide

/-- L3. -/
theorem test_ld_r_X_wraps :
    leaves [0x87#8, 0x10#8, 0x20#8] (given [(r 0#4, 0xF0#8), (m 0x10#8, 0x77#8)]) [r 1#4]
      = some [0x77#8] := by decide

/-- L4: a computed address reaches set 2, not BTCON. -/
theorem test_ld_r_X_set2 :
    leaves [0x87#8, 0x10#8, 0xCF#8] (given [(r 0#4, 0x04#8), (m 0xD3#8, 0x9C#8), (.sys .btcon, 0xA0#8)]) [r 1#4]
      = some [0x9C#8] := by decide

/-- L5. -/
theorem test_push_R_wraps :
    leaves [0x70#8, 0x40#8] (given [sp 0x00#8, (m 0x40#8, 0x4F#8)]) [m 0xFF#8, .sys .spl]
      = some [0x4F#8, 0xFF#8] := by decide

/-- L6. -/
theorem test_pop_R_wraps :
    leaves [0x50#8, 0x41#8] (given [sp 0xFF#8, (m 0xFF#8, 0x4F#8)]) [m 0x41#8, .sys .spl]
      = some [0x4F#8, 0x00#8] := by decide

/-- L7. -/
theorem test_ldc_r_Irr :
    leaves [0xC3#8, 0x02#8] (withRom (given [(r 2#4, 0x01#8), (r 3#4, 0x40#8)]) 0x0140 [0x12#8]) [r 0#4]
      = some [0x12#8] := by decide

/-- L9. -/
theorem test_ldc_r_XS :
    leaves [0xE7#8, 0x04#8, 0xFF#8] (withRom (given [(r 4#4, 0x01#8), (r 5#4, 0x40#8)]) 0x013F [0xEE#8]) [r 0#4]
      = some [0xEE#8] := by decide

/-- L10. -/
theorem test_ldc_r_XL :
    leaves [0xA7#8, 0x02#8, 0x34#8, 0x12#8] (withRom (given [(r 2#4, 0x01#8), (r 3#4, 0x04#8)]) 0x1338 [0x5A#8]) [r 0#4]
      = some [0x5A#8] := by decide

/-- L11. -/
theorem test_ldc_r_DA :
    leaves [0xA7#8, 0x00#8, 0x40#8, 0x01#8] (withRom (given []) 0x0140 [0x12#8]) [r 0#4]
      = some [0x12#8] := by decide

/-- L12. -/
theorem test_ldcd_wraps :
    leaves [0xE2#8, 0x86#8] (withRom (given []) 0x0000 [0x02#8]) [r 8#4, r 6#4, r 7#4]
      = some [0x02#8, 0xFF#8, 0xFF#8] := by decide

/-- L13. -/
theorem test_ldci :
    leaves [0xE3#8, 0x86#8] (withRom (given [(r 6#4, 0x7F#8), (r 7#4, 0xFF#8)]) 0x7FFF [0x99#8]) [r 8#4, r 6#4, r 7#4]
      = some [0x99#8, 0x80#8, 0x00#8] := by decide

/-- L13, the second LDCI: above ROM_TOP. -/
theorem test_ldci_above : exec (.ldci_r_Irr 8#4 3#3) (given [(r 6#4, 0x80#8)]) = .fault .progAddressOutOfRange := rfl

/-- L8 and L14: refused. -/
theorem test_lde_ldc_refused :
    exec (.lde_r_Irr 0#4 1#3) State.reset = .refused .noDataMemory
      ∧ exec (.ldc_Irr_r 1#3 0#4) State.reset = .refused .programStore := ⟨rfl, rfl⟩

/-- L15. -/
theorem test_ldw_IML :
    leaves [0xC6#8, 0xC2#8, 0x01#8, 0x40#8] (given []) [r 2#4, r 3#4]
      = some [0x01#8, 0x40#8] := by decide

/-- L16. -/
theorem test_ldw_RR :
    leaves [0xC4#8, 0xC4#8, 0xC6#8] (given [(r 4#4, 0x06#8), (r 5#4, 0x1C#8)]) [r 6#4, r 7#4]
      = some [0x06#8, 0x1C#8] := by decide

/-- L17, the push. -/
theorem test_pushud :
    leaves [0x82#8, 0x00#8, 0x01#8] (given [(m 0x00#8, 0x03#8), (m 0x01#8, 0x05#8)]) [m 0x00#8, m 0x02#8]
      = some [0x02#8, 0x05#8] := by decide

/-- L17, the pop. -/
theorem test_popui :
    leaves [0x93#8, 0x00#8, 0x10#8] (given [(m 0x00#8, 0x02#8), (m 0x02#8, 0x05#8)]) [m 0x10#8, m 0x00#8]
      = some [0x05#8, 0x03#8] := by decide

/-- 40_load.md R121, by hand. -/
theorem test_clr_IR :
    leaves [0xB1#8, 0xC1#8] (given [(r 1#4, 0x20#8), (m 0x20#8, 0x55#8)]) [m 0x20#8, r 1#4]
      = some [0x00#8, 0x20#8] := by decide

/-- 40_load.md R142: LDEPD where the launch has external data memory, the rule's example. -/
theorem test_ldepd :
    (runs [0xF2#8, 0x07#8] { given [(r 0#4, 0x77#8), (r 6#4, 0x30#8)] with launch := { Launch.default with hasExtDataMem := true } }).map
        (fun t => (t.stored (r 6#4), t.stored (r 7#4), t.data))
      = some (0x2F#8, 0xFF#8, [(0x2FFF, 0x77#8)]) := by decide

/-! ### Arithmetic (41_arithmetic.md; vectors A; FLAGS is C Z S V D H FIS BA) -/

/-- A7. -/
theorem test_sub_A7 :
    flagged [0x22#8, 0x12#8] (given [(r 1#4, 0x00#8), (r 2#4, 0x01#8)]) (r 1#4) = some (0xFF#8, 0xAC#8) := by decide

/-- A10. -/
theorem test_sub_A10 :
    flagged [0x22#8, 0x12#8] (given [(r 1#4, 0x7F#8), (r 2#4, 0xFF#8)]) (r 1#4) = some (0x80#8, 0xB8#8) := by decide

/-- A11. -/
theorem test_sbc_A11 :
    flagged [0x32#8, 0x12#8] (given [(r 1#4, 0x00#8), (r 2#4, 0xFF#8), f 0x80#8]) (r 1#4) = some (0x00#8, 0xCC#8) := by decide

/-- A12. -/
theorem test_sbc_A12 :
    flagged [0x32#8, 0x12#8] (given [(r 1#4, 0x10#8), (r 2#4, 0x0F#8), f 0x80#8]) (r 1#4) = some (0x00#8, 0x4C#8) := by decide

/-- A13: D and H kept. -/
theorem test_cp_A13 :
    flagged [0xA2#8, 0x12#8] (given [(r 1#4, 0x80#8), (r 2#4, 0x7F#8), f 0x0C#8]) (r 1#4) = some (0x80#8, 0x1C#8) := by decide

/-- A15. -/
theorem test_cp_A15 :
    flagged [0xA2#8, 0x12#8] (given [(r 1#4, 0x01#8), (r 2#4, 0xFF#8)]) (r 1#4) = some (0x01#8, 0x80#8) := by decide

/-- A16, the ADD. -/
theorem test_add_A16 :
    flagged [0x02#8, 0x01#8] (given [(r 0#4, 0x99#8), (r 1#4, 0x01#8)]) (r 0#4) = some (0x9A#8, 0x20#8) := by decide

/-- A17, the DA: C = 1, H = 1, D = 0. -/
theorem test_da_A17 :
    leaves [0x40#8, 0xC0#8] (given [(r 0#4, 0x12#8), f 0x84#8]) [r 0#4]
      = some [0x78#8] := by decide

/-- A18, the DA: C = 1, H = 1, D = 1. -/
theorem test_da_A18 :
    leaves [0x40#8, 0xC0#8] (given [(r 0#4, 0xFF#8), f 0x8C#8]) [r 0#4]
      = some [0x99#8] := by decide

/-- A20: C kept. -/
theorem test_inc_A20 :
    flagged [0x3E#8] (given [(r 3#4, 0xFF#8), f 0x80#8]) (r 3#4) = some (0x00#8, 0xC0#8) := by decide

/-- A21. -/
theorem test_dec_A21 :
    flagged [0x00#8, 0x10#8] (given [(m 0x10#8, 0x80#8)]) (m 0x10#8) = some (0x7F#8, 0x10#8) := by decide

/-- A22. -/
theorem test_incw_A22 :
    leaves [0xA0#8, 0xC0#8] (given [(r 0#4, 0xFF#8), (r 1#4, 0xFF#8)]) [r 0#4, r 1#4]
      = some [0x00#8, 0x00#8] := by decide

/-- A25. -/
theorem test_incw_A25 :
    leaves [0xA1#8, 0x01#8] (given [(m 0x01#8, 0x10#8), (m 0x10#8, 0x12#8), (m 0x11#8, 0xFF#8)]) [m 0x10#8, m 0x11#8, m 0x01#8]
      = some [0x13#8, 0x00#8, 0x10#8] := by decide

/-- A24. -/
theorem test_decw_A24 :
    leaves [0x80#8, 0xC0#8] (given []) [r 0#4, r 1#4]
      = some [0xFF#8, 0xFF#8] := by decide

/-- A27, the low byte. -/
theorem test_mult_A27 :
    flagged [0x84#8, 0xC2#8, 0xC0#8] (given [(r 0#4, 0xFF#8), (r 2#4, 0xFF#8)]) (r 1#4) = some (0x01#8, 0xA0#8) := by decide

/-- A28. -/
theorem test_mult_A28 :
    leaves [0x86#8, 0x0A#8, 0xC0#8] (given [(r 0#4, 0x19#8)]) [r 0#4, r 1#4]
      = some [0x00#8, 0xFA#8] := by decide

/-- A30, the quotient. -/
theorem test_div_A30 :
    flagged [0x94#8, 0xC2#8, 0xC0#8] (given [(r 0#4, 0x10#8), (r 1#4, 0x03#8), (r 2#4, 0x40#8)]) (r 1#4) = some (0x40#8, 0x00#8) := by decide

/-- A31. -/
theorem test_div_A31 :
    leaves [0x94#8, 0xC2#8, 0xC0#8] (given [(r 0#4, 0x00#8), (r 1#4, 0xFA#8), (r 2#4, 0x07#8)]) [r 0#4, r 1#4]
      = some [0x05#8, 0x23#8] := by decide

/-- A32 and A33: V, Z, and C where it is stated, whatever the free values. -/
theorem test_div_open (d : DivideDraws) :
    (divideResult d 0x0100#16 0x01#8).flags.v = some true ∧ (divideResult d 0x0100#16 0x01#8).flags.z = some false
      ∧ (divideResult d 0x0100#16 0x01#8).flags.c = some true ∧ (divideResult d 0x0100#16 0x00#8).flags.v = some true
      ∧ (divideResult d 0x0100#16 0x00#8).flags.z = some true := ⟨rfl, rfl, rfl, rfl, rfl⟩

/-- A16 to A19: C after DA, and the input without a row. -/
theorem test_da_carry (d : DecimalDraws) :
    (decimalResult false false false d 0x9A#8).flags.c = some true ∧ (decimalResult false false false d 0x9A#8).value = 0x00#8
      ∧ (decimalResult true true true d 0xFF#8).flags.c = some true ∧ (decimalResult false true true d 0x3C#8).value = d.result :=
  ⟨rfl, rfl, rfl, rfl⟩

/-! ### Logic and tests under mask (42_logic.md, 44_bit_manipulation.md; vectors G) -/

/-- G1. -/
theorem test_and_G1 :
    flagged [0x52#8, 0x12#8] (given [(r 1#4, 0xF0#8), (r 2#4, 0x0F#8)]) (r 1#4) = some (0x00#8, 0x40#8) := by decide

/-- G2. -/
theorem test_or_G2 :
    flagged [0x42#8, 0x12#8] (given [(r 1#4, 0x80#8), (r 2#4, 0x01#8)]) (r 1#4) = some (0x81#8, 0x20#8) := by decide

/-- G3: the source is the destination. -/
theorem test_xor_G3 :
    flagged [0xB2#8, 0x11#8] (given [(r 1#4, 0xAA#8)]) (r 1#4) = some (0x00#8, 0x40#8) := by decide

/-- G4. -/
theorem test_com_G4 :
    flagged [0x60#8, 0xC1#8] (given [(r 1#4, 0x55#8)]) (r 1#4) = some (0xAA#8, 0x20#8) := by decide

/-- G5. -/
theorem test_and_flags_G5 :
    flagged [0x56#8, 0xD5#8, 0x0F#8] (given [f 0xF1#8]) (.sys .flags) = some (0x01#8, 0x01#8) := by decide

/-- G6. -/
theorem test_tcm_G6 :
    flagged [0x66#8, 0xC0#8, 0x34#8] (given [(r 0#4, 0x34#8)]) (r 0#4) = some (0x34#8, 0x40#8) := by decide

/-- G7. -/
theorem test_tcm_G7 :
    flagged [0x66#8, 0xC0#8, 0x34#8] (given [(r 0#4, 0x30#8)]) (r 0#4) = some (0x30#8, 0x00#8) := by decide

/-- G8. -/
theorem test_tm_G8 :
    flagged [0x76#8, 0xC0#8, 0x04#8] (given [(r 0#4, 0x30#8)]) (r 0#4) = some (0x30#8, 0x40#8) := by decide

/-! ### Bit manipulation (vectors B; V is free, so the bytes are compared) -/

/-- B1. -/
theorem test_band_B1 :
    leaves [0x67#8, 0x12#8, 0x01#8] (given [(r 1#4, 0x07#8), (m 0x01#8, 0x05#8)]) [r 1#4, m 0x01#8]
      = some [0x06#8, 0x05#8] := by decide

/-- B2. -/
theorem test_band_B2 :
    leaves [0x67#8, 0x13#8, 0x01#8] (given [(r 1#4, 0x07#8), (m 0x01#8, 0x05#8)]) [m 0x01#8, r 1#4]
      = some [0x05#8, 0x07#8] := by decide

/-- B3. -/
theorem test_bor_B3 :
    leaves [0x07#8, 0x12#8, 0x01#8] (given [(r 1#4, 0x06#8), (m 0x01#8, 0x03#8)]) [r 1#4]
      = some [0x07#8] := by decide

/-- B4. -/
theorem test_bxor_B4 :
    leaves [0x27#8, 0x12#8, 0x01#8] (given [(r 1#4, 0x07#8), (m 0x01#8, 0x03#8)]) [r 1#4]
      = some [0x06#8] := by decide

/-- B5. -/
theorem test_bcp_B5 :
    leaves [0x17#8, 0x12#8, 0x01#8] (given [(r 1#4, 0x07#8), (m 0x01#8, 0x01#8)]) [r 1#4, m 0x01#8]
      = some [0x07#8, 0x01#8] := by decide

/-- B7. -/
theorem test_bitc_B7 :
    leaves [0x57#8, 0x12#8] (given [(r 1#4, 0x07#8)]) [r 1#4]
      = some [0x05#8] := by decide

/-- B8. -/
theorem test_bitr_B8 :
    flagged [0x77#8, 0x12#8] (given [(r 1#4, 0x07#8)]) (r 1#4) = some (0x05#8, 0x00#8) := by decide

/-- B9. -/
theorem test_bits_B9 :
    flagged [0x77#8, 0x17#8] (given [(r 1#4, 0x07#8)]) (r 1#4) = some (0x0F#8, 0x00#8) := by decide

/-- 44_bit_manipulation.md R236, by hand. -/
theorem test_ldb :
    leaves [0x47#8, 0x16#8, 0x05#8] (given [(r 1#4, 0x06#8), (m 0x05#8, 0x08#8)]) [r 1#4, m 0x05#8]
      = some [0x07#8, 0x08#8] := by decide

/-- The flags of a one-bit result, whatever V: B1, B3. -/
theorem test_bitFlags (v : Bool) :
    (bitFlags v false).z = some true ∧ (bitFlags v true).z = some false ∧ (bitFlags v true).s = some false := ⟨rfl, rfl, rfl⟩

/-- B10: SYM.0 set through a working register. -/
theorem test_bits_B10 :
    (runs [0x77#8, 0x61#8] (given [(.sys .rp0, 0xD8#8)])).map (fun t => t.dstWork 6#4) = some (.sys .sym) := rfl

/-! ### Rotate and shift (45_rotate_shift.md; vectors T) -/

/-- T1. -/
theorem test_rl_T1 :
    flagged [0x90#8, 0x00#8] (given [(m 0x00#8, 0xAA#8)]) (m 0x00#8) = some (0x55#8, 0x90#8) := by decide

/-- T8. -/
theorem test_rl_T8 :
    flagged [0x90#8, 0x00#8] (given [(m 0x00#8, 0x80#8)]) (m 0x00#8) = some (0x01#8, 0x90#8) := by decide

/-- T2. -/
theorem test_rlc_T2 :
    flagged [0x10#8, 0x00#8] (given [(m 0x00#8, 0xAA#8)]) (m 0x00#8) = some (0x54#8, 0x90#8) := by decide

/-- T9. -/
theorem test_rlc_T9 :
    flagged [0x10#8, 0x00#8] (given [f 0x80#8]) (m 0x00#8) = some (0x01#8, 0x00#8) := by decide

/-- T3. -/
theorem test_rr_T3 :
    flagged [0xE0#8, 0x00#8] (given [(m 0x00#8, 0x31#8)]) (m 0x00#8) = some (0x98#8, 0xB0#8) := by decide

/-- T4. -/
theorem test_rrc_T4 :
    flagged [0xC0#8, 0x00#8] (given [(m 0x00#8, 0x55#8)]) (m 0x00#8) = some (0x2A#8, 0x80#8) := by decide

/-- T5. -/
theorem test_sra_T5 :
    flagged [0xD0#8, 0x00#8] (given [(m 0x00#8, 0x9A#8)]) (m 0x00#8) = some (0xCD#8, 0x20#8) := by decide

/-- T6. -/
theorem test_sra_T6 :
    flagged [0xD0#8, 0x00#8] (given [(m 0x00#8, 0x01#8)]) (m 0x00#8) = some (0x00#8, 0xC0#8) := by decide

/-- T7. -/
theorem test_swap_T7 :
    leaves [0xF0#8, 0x00#8] (given [(m 0x00#8, 0x3E#8)]) [m 0x00#8]
      = some [0xE3#8] := by decide

/-- T10. -/
theorem test_rl_IR_T10 :
    flagged [0x91#8, 0x01#8] (given [(m 0x01#8, 0x02#8), (m 0x02#8, 0x17#8)]) (m 0x02#8) = some (0x2E#8, 0x00#8) := by decide

/-! ### Program control (43_program_control.md; vectors J) -/

/-- J1. -/
theorem test_jr_J1 : goes [0xEB#8, 0x10#8] 0x0200#16 (given []) = some 0x0212#16 := by decide

/-- J4. -/
theorem test_jr_J4 : goes [0x8B#8, 0x80#8] 0x0200#16 (given []) = some 0x0182#16 := by decide

/-- J5. -/
theorem test_jp_J5 : goes [0x7D#8, 0x12#8, 0x34#8] 0x0200#16 (given [f 0x80#8]) = some 0x1234#16 := by decide

/-- J6: never taken. -/
theorem test_jp_J6 : goes [0x0D#8, 0x12#8, 0x34#8] 0x0200#16 (given []) = some 0x0203#16 := by decide

/-- J7. -/
theorem test_jp_irr_J7 : goes [0x30#8, 0xC0#8] 0x0200#16 (given [(r 0#4, 0x12#8), (r 1#4, 0x34#8)]) = some 0x1234#16 := by decide

/-- J8. -/
theorem test_jr_lt_J8 : goes [0x1B#8, 0x04#8] 0x0200#16 (given [f 0x20#8]) = some 0x0206#16 := by decide

/-- J9. -/
theorem test_jr_ugt_J9 : goes [0xBB#8, 0x04#8] 0x0200#16 (given [f 0x40#8]) = some 0x0202#16 := by decide

/-- J10. -/
theorem test_djnz_J10 : goes [0x1A#8, 0xFE#8] 0x0300#16 (given [(r 1#4, 0x01#8)]) = some 0x0302#16 := by decide

/-- J11. -/
theorem test_djnz_J11 : goes [0x1A#8, 0xFE#8] 0x0300#16 (given [(r 1#4, 0x00#8)]) = some 0x0300#16 := by decide

/-- J12: CALL pushes the address after it, high byte below. -/
theorem test_call_J12 :
    (runs [0xF6#8, 0x35#8, 0x21#8] ((given [sp 0x02#8]).setPc 0x1A47#16)).map
        (fun t => (t.pc, t.spl, t.stored (m 0x00#8), t.stored (m 0x01#8)))
      = some (0x3521#16, 0x00#8, 0x1A#8, 0x4A#8) := by decide

/-- J13. -/
theorem test_ret_J13 : goes [0xAF#8] 0x0200#16 (given [sp 0x00#8, (m 0x00#8, 0x1A#8), (m 0x01#8, 0x4A#8)]) = some 0x1A4A#16 := by decide

/-- J14: CALL IA. -/
theorem test_call_ia_J14 :
    (runs [0xD4#8, 0x40#8] ((withRom (given []) 0x40 [0x35#8, 0x21#8]).setPc 0x0150#16)).map
        (fun t => (t.pc, t.spl, t.stored (m 0xFE#8), t.stored (m 0xFF#8)))
      = some (0x3521#16, 0xFE#8, 0x01#8, 0x52#8) := by decide

/-- J16. -/
theorem test_btjrf_J16 : goes [0x37#8, 0x16#8, 0x08#8] 0x0400#16 (given [(r 1#4, 0x07#8)]) = some 0x040B#16 := by decide

/-- J17. -/
theorem test_btjrt_J17 : goes [0x37#8, 0x13#8, 0x08#8] 0x0400#16 (given [(r 1#4, 0x07#8)]) = some 0x040B#16 := by decide

/-- J18. -/
theorem test_btjrt_J18 : goes [0x37#8, 0x17#8, 0x08#8] 0x0400#16 (given [(r 1#4, 0x07#8)]) = some 0x0403#16 := by decide

/-- J19. -/
theorem test_cpije_J19 : goes [0xC2#8, 0x21#8, 0x05#8] 0x0400#16 (given [(r 1#4, 0x02#8), (r 2#4, 0x03#8), (m 0x03#8, 0x02#8)]) = some 0x0408#16 := by decide

/-- J20. -/
theorem test_cpijne_J20 : goes [0xD2#8, 0x21#8, 0x05#8] 0x0400#16 (given [(r 1#4, 0x02#8), (r 2#4, 0x03#8), (m 0x03#8, 0x02#8)]) = some 0x0403#16 := by decide

/-- J21: NEXT. -/
theorem test_next_J21 :
    (runs [0x0F#8] (withRom (given [(.sys .ipl, 0x43#8)]) 0x43 [0x01#8, 0x30#8])).map (fun t => (t.pc, t.iph, t.ipl))
      = some (0x0130#16, 0x00#8, 0x45#8) := by decide

/-- Program P6, its ENTER at 0140H. -/
theorem test_enter_P6 :
    (runs [0x1F#8] ((withRom (given [(.sys .iph, 0x01#8), (.sys .ipl, 0x32#8)]) 0x141 [0x01#8, 0x50#8]).setPc 0x0140#16)).map
        (fun t => ((t.pc, t.iph, t.ipl), (t.spl, t.stored (m 0xFE#8), t.stored (m 0xFF#8))))
      = some ((0x0150#16, 0x01#8, 0x43#8), (0xFE#8, 0x01#8, 0x32#8)) := by decide

/-- Program P6, its EXIT at 0158H. -/
theorem test_exit_P6 :
    (runs [0x2F#8] (withRom (given [sp 0xFE#8, (m 0xFE#8, 0x01#8), (m 0xFF#8, 0x32#8)]) 0x132 [0x01#8, 0x60#8])).map
        (fun t => (t.pc, t.iph, t.ipl, t.spl))
      = some (0x0160#16, 0x01#8, 0x34#8, 0x00#8) := by decide

/-- J22: IRET of a normal interrupt. -/
theorem test_iret_J22 :
    (runs [0xBF#8] (given [sp 0xFC#8, (m 0xFC#8, 0x40#8), (m 0xFD#8, 0x12#8), (m 0xFE#8, 0x34#8)])).map
        (fun t => (t.flags, t.pc, t.spl, t.ie))
      = some (0x40#8, 0x1234#16, 0xFF#8, true) := by decide

/-! ### CPU control (46_cpu_control.md; vectors K) -/

/-- K1. -/
theorem test_ccf_K1 :
    leaves [0xEF#8] (given [f 0x41#8]) [.sys .flags]
      = some [0xC1#8] := by decide

/-- K2. -/
theorem test_rcf_K2 :
    leaves [0xCF#8] (given [f 0xC1#8]) [.sys .flags]
      = some [0x41#8] := by decide

/-- K3. -/
theorem test_scf_K3 :
    leaves [0xDF#8] (given [f 0x41#8]) [.sys .flags]
      = some [0xC1#8] := by decide

/-- K4. -/
theorem test_di_K4 :
    leaves [0x8F#8] (given [(.sys .sym, 0x01#8)]) [.sys .sym]
      = some [0x00#8] := by decide

/-- K5. -/
theorem test_ei_K5 :
    leaves [0x9F#8] (given [(.sys .sym, 0x04#8)]) [.sys .sym]
      = some [0x05#8] := by decide

/-- K6. -/
theorem test_sb1_K6 :
    leaves [0x5F#8] (given []) [.sys .flags]
      = some [0x01#8] := by decide

/-- K7. -/
theorem test_sb0_K7 :
    leaves [0x4F#8] (given [f 0x81#8]) [.sys .flags]
      = some [0x80#8] := by decide

/-- K8. -/
theorem test_srp_K8 :
    leaves [0x31#8, 0x40#8] (given []) [.sys .rp0, .sys .rp1]
      = some [0x40#8, 0x48#8] := by decide

/-- K9. -/
theorem test_srp0_K9 :
    leaves [0x31#8, 0x52#8] (given []) [.sys .rp0, .sys .rp1]
      = some [0x50#8, 0xC8#8] := by decide

/-- K10. -/
theorem test_srp1_K10 :
    leaves [0x31#8, 0x69#8] (given []) [.sys .rp0, .sys .rp1]
      = some [0xC0#8, 0x68#8] := by decide

/-- K12 and K13: NOP only moves pc; IDLE enters its mode, WFI its wait, STOP its mode. -/
theorem test_nop_idle_wfi_stop :
    runs [0xFF#8] State.reset = some (State.reset.setPc 0x0101#16)
      ∧ (runs [0x6F#8] (given [(.sys .sym, 0x01#8)])).map State.power = some .idle
      ∧ (runs [0x3F#8] State.reset).map State.waiting = some true ∧ (runs [0x7F#8] State.reset).map State.power = some .stop :=
  ⟨rfl, rfl, rfl, rfl⟩

/-! ### Interrupts and reset (60_exceptions.md, 70_reset_and_hazards.md; vectors X) -/

/-- A source of level IRQ3 with its vector at 00E6H, enabled by bit 0 of a peripheral register (vector X1, program P4). -/
def source3 : Source where
  level := 3#3
  vector := 0xE6#8
  external := false
  enable := ⟨.bank false 0#5, 0#3⟩
  pendingBit := ⟨.bank false 1#5, 0#3⟩
  hardwareClear := true

/-- As `source3`, with another level. -/
def sourceOf (level : Tri) : Source := { source3 with level := level }

/-- A map with the counts of the chip (60_exceptions.md R280): a first source and 21 others. -/
def chipMap (first : Source) : List Source :=
  first :: (List.range 21).map (fun k => { source3 with level := BitVec.ofNat 3 (k % 7), vector := BitVec.ofNat 8 (2 * (k % 15)) })

/-- The counts of 00_scope.md R4: with 22 sources, 16 vectors, 7 levels, and with 34 of the 66 addresses of `PERIPHERAL_MAP` missing; one
source or one register less or more breaks them; one page has 272 general bytes. -/
theorem test_chip_counts :
    { Launch.default with vectorMap := chipMap source3, absent := peripheralPlaces.take 34 }.conforms = true
      ∧ { Launch.default with vectorMap := (chipMap source3).tail }.conforms = false
      ∧ { Launch.default with vectorMap := chipMap { source3 with vector := 0x00#8 } }.conforms = false
      ∧ { Launch.default with absent := peripheralPlaces.take 33 }.conforms = false
      ∧ { Launch.default with absent := peripheralPlaces.take 35 }.conforms = false
      ∧ peripheralPlaces.length = 66 ∧ Launch.default.generalBytes = 272 := by decide

/-- The start of X1, with SYM and IMR as given. -/
def requested3 (sym imr : Byte) : State :=
  { withRom (given [f 0x40#8, (.sys .imr, imr), (.sys .sym, sym), (.bank false 0#5, 0x01#8)]) 0xE6 [0x03#8, 0x00#8] with
    launch := { Launch.default with vectorMap := chipMap source3 }
    pc := 0x0234#16
    latency := false
    pending := 1#22 }

/-- The state after a step, where there is one. -/
def after (s : State) : Option State :=
  match step s with
  | .next t => some t
  | .fault _ => none
  | .refused _ => none

/-- X1. -/
theorem test_entry_X1 :
    (after (requested3 0x01#8 0x08#8)).map
        (fun t => ((t.pc, t.spl, t.flags, t.sym), (t.stored (m 0xFF#8), t.stored (m 0xFE#8), t.stored (m 0xFD#8)), t.pending))
      = some ((0x0300#16, 0xFD#8, 0x40#8, 0x00#8), (0x34#8, 0x02#8, 0x40#8), 0#22) := by decide

/-- X2 and X3: not accepted; the request still shows in IRQ. -/
theorem test_entry_X2_X3 :
    (requested3 0x00#8 0x08#8).served = none ∧ bitAt (requested3 0x00#8 0x08#8).irq 3#3 = true
      ∧ (requested3 0x01#8 0x00#8).served = none ∧ (requested3 0x01#8 0x00#8).pending = 1#22 := by decide

/-- X4: IPR = 10H puts group A above C. -/
theorem test_priority_X4 : (given [(.ipr, 0x10#8)]).outranks 1#3 5#3 = true ∧ (given [(.ipr, 0x10#8)]).outranks 5#3 1#3 = false := by
  decide

/-- A fast interrupt (60_exceptions.md R298), by hand: PC and IP exchanged, FLAGS kept in the shadow, FIS set, nothing pushed. -/
theorem test_fast_entry :
    (after { requested3 0x0F#8 0x08#8 with iph := 0x04#8, ipl := 0x56#8 }).map
        (fun t => ((t.pc, t.iph, t.ipl), (t.flagsShadow, t.flags, t.spl)))
      = some ((0x0456#16, 0x02#8, 0x34#8), (0x40#8, 0x42#8, 0x00#8)) := by decide

/-- The watchdog (10_state.md R33): an overflow resets, but not with BTCON[7:4] = 1010B. -/
theorem test_watchdog :
    ((given [(.sys .rp0, 0x40#8)]).happen (.basicTimer 256)).rp0 = 0xC0#8
      ∧ ((given [(.sys .rp0, 0x40#8), (.sys .btcon, 0xA0#8)]).happen (.basicTimer 256)).rp0 = 0x40#8 := by decide

/-- The first step from reset runs the instruction of a table word: LD SPL,#7FH, a word of three bytes. -/
theorem test_withFetchWord :
    decodeTableWord 24 0x7FE6D9 = some (.ld_R_IM 0xD9#8 0x7F#8)
      ∧ (after (State.reset.withFetchWord 24 0x7FE6D9)).map (fun t => (t.spl, t.pc)) = some (0x7F#8, 0x0103#16) := by decide

/-! ## Witnesses: for every obligation with hypotheses, states and operands that meet them -/

/-- A state for the register and memory statements: pair RR2 and pair RR6 name program and data memory below ROM_TOP, Reg[10H] and r4 hold
an even pointer, the stack pointer is in the middle. -/
def s1 : State :=
  given [(r 2#4, 0x01#8), (r 3#4, 0x40#8), (r 4#4, 0x20#8), (r 6#4, 0x02#8), (m 0x10#8, 0x20#8), (m 0x11#8, 0x05#8), (m 0x20#8, 0x12#8), sp 0x80#8]

/-- `s1` with external data memory. -/
def s2 : State := { s1 with launch := { Launch.default with hasExtDataMem := true } }

/-- Whether a state meets the hypotheses of `State.Completes` for an access. -/
def meets (s : State) (a : Access) : Bool := s.inv && s.ready a

/-- `meets` for the access of an instruction. -/
def meetsOf (s : State) (a : Option Access) : Bool :=
  match a with
  | some a => meets s a
  | none => false

theorem witness_DecodeOfEncode : (Instr.ldc_r_XL 0#4 1#3 0x1000#16).wellFormed = true := by decide

theorem witness_EncodeOfDecode : decode [0x02#8, 0x12#8, 0xFF#8] = .ok (.add_r_r 1#4 2#4, [0xFF#8]) := rfl

theorem witness_ReservedEncodingsRejected : 0x43#8 &&& 3#8 = 3#8 ∧ bitOf 0x43#8 0#3 = true := by decide

/-- NOP at pc, with no request; and with one right after a delaying instruction. -/
theorem witness_StepRunsDecodedInstruction :
    (State.reset.holdsNext .nop ∧ State.reset.fetchesNext)
      ∧ ((requested3 0x01#8 0x08#8).setLatency true).holdsNext .nop
      ∧ ((requested3 0x01#8 0x08#8).env = [] ∧ (requested3 0x01#8 0x08#8).power = .run ∧ (requested3 0x01#8 0x08#8).waiting = false)
      ∧ ((requested3 0x01#8 0x08#8).setLatency true).latency = true ∧ (requested3 0x01#8 0x08#8).served = some (0, source3) :=
  ⟨⟨⟨rfl, by decide, by decide⟩, rfl, rfl, rfl, rfl⟩, ⟨rfl, by decide, by decide⟩, by decide⟩

theorem witness_StepKeepsInvariant : State.reset.inv = true ∧ ∃ t, step State.reset = .next t := ⟨by decide, _, rfl⟩

theorem witness_StepKeepsProgram : ∃ t, step State.reset = .next t := ⟨_, rfl⟩

theorem witness_RegisterAddressing :
    (0xBF#8 : Byte).toNat < 0xC0 ∧ (0xC0 ≤ (0xC0#8 : Byte).toNat ∧ (0xC0#8 : Byte).toNat < 0xD0)
      ∧ (0xC0 ≤ (0xCF#8 : Byte).toNat ∧ (0xCF#8 : Byte).toNat < 0xD0) ∧ (0xD0#8 : Byte).toNat = 0xD0 + 0
      ∧ (0xDF#8 : Byte).toNat = 0xD0 + 15 ∧ (0xE0 ≤ (0xE0#8 : Byte).toNat ∧ ¬((0xE0#8 : Byte) = 0xFF#8 ∧ State.reset.flag .ba = false))
      ∧ (0xE0 ≤ (0xFF#8 : Byte).toNat ∧ ¬((0xFF#8 : Byte) = 0xFF#8 ∧ (given [f 0x01#8]).flag .ba = false))
      ∧ State.reset.flag .ba = false := by decide

/-- The prime area at its two ends; the working register r0 with RP0 = 40H. -/
theorem witness_AliasesReadTheWrite :
    s1.inv = true ∧ s1.srcPage = s1.dstPage ∧ s1.writable s1.ie (s1.dstReg 0xBF#8, 0x77#8) = true
      ∧ s1.writable s1.ie (s1.dstReg 0x00#8, 0x77#8) = true ∧ (given [(.sys .rp0, 0x40#8)]).inv = true
      ∧ (given [(.sys .rp0, 0x40#8)]).rp0.toNat / 8 * 8 + (0#4 : Nibble).toNat % 8 = (0x40#8 : Byte).toNat := by decide

theorem witness_AliasesReadTheWrite_writes : ∃ t, s1.writeLoc (s1.dstReg 0xBF#8) 0x77#8 = .ok t := ⟨_, rfl⟩

theorem witness_ConditionCodes : 15 < conditionCodes.length := by decide

theorem witness_LoadsAndClears :
    [.clr_R 0x00#8, .clr_IR 0x10#8, .ld_r_IM 1#4 0xFF#8, .ld_r_R 1#4 0xBF#8, .ld_R_r 0xDA#8 1#4, .ld_r_Ir 1#4 4#4, .ld_Ir_r 4#4 1#4,
      .ld_R_R 0xD9#8 0xFF#8, .ld_R_IR 0x11#8 0x10#8, .ld_R_IM 0xE0#8 0x01#8, .ld_IR_IM 0x10#8 0x01#8, .ld_IR_R 0x10#8 0x11#8,
      .ld_r_X 1#4 0xF0#8 4#4, .ld_X_r 0xF0#8 4#4 1#4].all (fun i => meetsOf s1 (s1.loadAccess i)) = true := by decide

theorem witness_MemoryLoads :
    [MemForm.Irr 1#3, .XS 1#3 0xFF#8, .XL 1#3 0x7EBF#16, .DA 0x7FFF#16].all
        (fun g => decide ((g.address s2).toNat ≤ s2.launch.part.romTop) && s2.launch.hasExtDataMem
          && meets s2 { reads := g.reads s2, writes := [(s2.dstWork 5#4, 0x77#8)], pc := s2.pc }) = true := by decide

/-- The loaded register outside the pair, its first register, its second. -/
theorem witness_MemoryLoadsThenStep :
    (s2.pairW 1#3).toNat ≤ s2.launch.part.romTop ∧ s2.launch.hasExtDataMem = true
      ∧ meets s2 { reads := s2.pairWPlaces 1#3, writes := (s2.dstWork 5#4, 0x77#8) :: s2.toPairW 1#3 0x013F#16, pc := s2.pc } = true
      ∧ s2.dstWork 2#4 = s2.dstWork (pairNumber 1#3) ∧ s2.dstWork 3#4 = s2.dstWork (pairNumber 1#3 + 1#4) := by decide

theorem witness_ExternalStores :
    s2.launch.hasExtDataMem = true
      ∧ [MemForm.Irr 1#3, .XS 1#3 0x80#8, .XL 1#3 0xFFFF#16, .DA 0xFFFF#16].all
        (fun g => meets s2 { reads := g.reads s2 ++ [s2.srcW 0#4], pc := s2.pc }) = true := by decide

theorem witness_StepThenExternalStores :
    s2.inv = true ∧ s2.launch.hasExtDataMem = true
      ∧ s2.ready { reads := s2.pairWPlaces 3#3 ++ [s2.srcW 0#4], writes := s2.toPairW 3#3 (s2.pairW 3#3 - 1#16), pc := s2.pc } = true
      ∧ s2.ready { reads := s2.pairWPlaces 3#3 ++ [s2.srcW 0#4], writes := s2.toPairW 3#3 (s2.pairW 3#3 + 1#16), pc := s2.pc } = true := by
  decide

theorem witness_ExternalMemoryAbsentStops :
    s1.launch.hasExtDataMem = false
      ∧ s1.ready { reads := (MemForm.Irr 1#3).reads s1 ++ s1.pairWPlaces 3#3 ++ [s1.srcW 0#4],
                   writes := s1.toPairW 3#3 (s1.pairW 3#3 - 1#16), pc := s1.pc } = true
      ∧ s1.writableAll s1.ie (s1.toPairW 3#3 (s1.pairW 3#3 + 1#16)) = true := by decide

theorem witness_WordLoads :
    bitOf 0x40#8 0#3 = false ∧ bitOf 0x10#8 0#3 = false ∧ bitOf (s1.look (s1.srcR 0x10#8)) 0#3 = false
      ∧ meets s1 { reads := s1.pairRPlaces 0x10#8, writes := s1.toPairR 0x40#8 (s1.pairR 0x10#8), pc := s1.pc } = true
      ∧ meets s1 { reads := [s1.srcR 0x10#8, s1.srcRI 0x10#8, s1.srcI (s1.look (s1.srcR 0x10#8) + 1#8)],
                   writes := s1.toPairR 0x40#8 (s1.pairI (s1.look (s1.srcR 0x10#8))), pc := s1.pc } = true := by decide

/-- The stack pointer in the middle, and at 00H, where it wraps. -/
theorem witness_PushAndPop :
    [s1, State.reset].all (fun s =>
      meets s { reads := [s.srcR 0x10#8, s.srcRI 0x10#8], writes := s.pushes s.spl [s.look (s.srcR 0x10#8)], pc := s.pc }
        && meets s { reads := [s.srcI s.spl, s.srcR 0x10#8], writes := [(.sys .spl, s.spl + 1#8), (s.dstReg 0x10#8, 0x00#8)], pc := s.pc }
        && meets s { reads := [s.srcI s.spl], writes := [(.sys .spl, s.spl + 1#8), (s.dstReg 0xD9#8, 0x00#8)], pc := s.pc }) = true := by
  decide

/-- Two registers, and one register twice. -/
theorem witness_UserStacks :
    [0x11#8, 0x10#8].all (fun n =>
      meets s1 { reads := [s1.srcR n, s1.srcRI n], writes := [(s1.dstReg 0x10#8, 0x00#8), (s1.dstReg n, 0x00#8)], pc := s1.pc }
        && meets s1 { reads := [s1.srcR n, s1.srcR 0x10#8], writes := [(s1.dstReg 0x10#8, 0x1F#8), (s1.dstInd 0x1F#8, 0x05#8)], pc := s1.pc })
      = true := by decide

/-- The five forms of the two-operand instructions, with a destination among the registers, in FLAGS and in SPL. -/
def twoForms : List TwoForm := [.r_r 1#4 2#4, .r_Ir 1#4 4#4, .R_R 0xD5#8 0x11#8, .R_IR 0xD9#8 0x10#8, .R_IM 0xBF#8 0xFF#8]

/-- The forms of the one-operand instructions. -/
def oneForms : List OneForm := [.r 1#4, .R 0xBF#8, .R 0xD9#8, .IR 0x10#8]

/-- The sources of MULT and DIV. -/
def sources : List ByteSource := [.R 0x11#8, .IR 0x10#8, .IM 0x05#8]

theorem witness_Addition :
    twoForms.all (fun g => meets s1 (g.storing s1 (sumByte false) (sumFlags false))
      && meets s1 (g.storing s1 (sumByte (s1.flag .c)) (sumFlags (s1.flag .c)))) = true := by decide

theorem witness_Subtraction :
    twoForms.all (fun g => meets s1 (g.storing s1 (differenceByte false) (borrowFlags false))
      && meets s1 (g.storing s1 (differenceByte (s1.flag .c)) (borrowFlags (s1.flag .c)))) = true := by decide

theorem witness_ComparisonsAndTests : twoForms.all (fun g => meets s1 (g.testing s1 (differenceFlags false))) = true := by decide

theorem witness_BitwiseLogic :
    twoForms.all (fun g => meets s1 (g.storing s1 (fun a b => a ^^^ b) (fun a b => zsv (a ^^^ b) false))) = true
      ∧ oneForms.all (fun g => meets s1 (g.storing s1 (fun a => ~~~a) (fun a => zsv (~~~a) false))) = true := by decide

theorem witness_IncrementAndDecrement : oneForms.all (fun g => meets s1 (g.storing s1 (fun a => a + 1#8) (fun _ => {}))) = true := by
  decide

theorem witness_Rotates :
    oneForms.all (fun g => meets s1 (g.storing s1 (fun a => BitVec.ofNat 8 (a.toNat * 2 + a.toNat / 128)) (fun _ => {}))) = true := by decide

theorem witness_ShiftAndSwap : oneForms.all (fun g => meets s1 (g.storing s1 (fun a => BitVec.ofInt 8 (a.toInt / 2)) (fun _ => {}))) = true := by
  decide

theorem witness_DecimalAdjust : [OneForm.R 0x11#8, .IR 0x10#8].all (fun g => meets s1 (g.storing s1 s1.decimalByte s1.decimalFlags)) = true := by
  decide

theorem witness_WordIncrementAndDecrement :
    bitOf 0x10#8 0#3 = false ∧ bitOf (s1.look (s1.srcR 0x10#8)) 0#3 = false
      ∧ meets s1 { reads := s1.pairRPlaces 0x10#8, writes := s1.toPairR 0x10#8 (s1.pairR 0x10#8 + 1#16), pc := s1.pc } = true
      ∧ meets s1 { reads := [s1.srcR 0x10#8, s1.srcI 0x20#8, s1.srcI 0x21#8],
                   writes := [(s1.dstInd 0x20#8, 0x12#8), (s1.dstInd 0x21#8, 0x01#8)], pc := s1.pc } = true := by decide

theorem witness_Multiplication :
    bitOf 0x10#8 0#3 = false
      ∧ sources.all (fun g => meets s1 { reads := s1.srcR 0x10#8 :: g.reads s1, writes := s1.toPairR 0x10#8 0x0000#16, pc := s1.pc }) = true := by
  decide

/-- The largest quotient that fits, 4FBH by 5. -/
theorem witness_DivisionThatFits :
    (fun s : State => bitOf 0x10#8 0#3 = false ∧ 0 < (5#8 : Byte).toNat ∧ (s.pairR 0x10#8).toNat / 5 = 0xFF
      ∧ meets s { reads := s.pairRPlaces 0x10#8 ++ (ByteSource.IM 0x05#8).reads s,
                  writes := [(s.dstReg 0x10#8, 0x00#8), (s.dstReg 0x11#8, 0xFF#8)], pc := s.pc } = true)
      (given [(m 0x10#8, 0x04#8), (m 0x11#8, 0xFB#8)]) := by decide

/-- A divisor of 0, and the smallest quotient that does not fit, 500H by 5. -/
theorem witness_DivisionThatOverflows :
    (fun s : State => s.inv = true ∧ bitOf 0x10#8 0#3 = false ∧ (s.pairR 0x10#8).toNat / 5 = 0x100
      ∧ (ByteSource.IM 0x00#8).value s = 0x00#8
      ∧ s.ready { reads := s.pairRPlaces 0x10#8 ++ (ByteSource.IM 0x05#8).reads s,
                  writes := [(s.dstReg 0x10#8, s.drawByte .divHigh), (s.dstReg 0x11#8, s.drawByte .divLow)], pc := s.pc } = true)
      (given [(m 0x10#8, 0x05#8)]) := by decide

theorem witness_ConditionsAfterCompare : ∃ t, exec (TwoOp.cp.instr (.r_r 1#4 2#4)) s1 = .next t := ⟨_, rfl⟩

theorem witness_DecimalArithmetic :
    s1.inv = true ∧ s1.srcPage = s1.dstPage ∧ (0x11#8 : Byte).toNat < 0xC0 ∧ s1.stored (.ram s1.srcPage 0x11#8) = packed 5
      ∧ (given [(m 0xBF#8, 0x99#8)]).inv = true ∧ (given [(m 0xBF#8, 0x99#8)]).stored (m 0xBF#8) = packed 99 := by decide

theorem witness_BitLogic :
    meets s1 { reads := [s1.srcW 1#4, s1.srcR 0x11#8], writes := [(s1.dstWork 1#4, 0x01#8)], pc := s1.pc } = true
      ∧ meets s1 { reads := [s1.srcR 0x11#8, s1.srcW 1#4], writes := [(s1.dstReg 0x11#8, 0x04#8)], pc := s1.pc } = true
      ∧ meets s1 { reads := [s1.srcW 1#4, s1.srcR 0x11#8], pc := s1.pc } = true := by decide

theorem witness_BitLoads :
    meets s1 { reads := [s1.srcW 1#4], writes := [(s1.dstWork 1#4, replaced 0x00#8 7#3 true)], pc := s1.pc } = true
      ∧ meets s1 { reads := [s1.srcR 0x11#8, s1.srcW 1#4], writes := [(s1.dstReg 0x11#8, 0x04#8)], pc := s1.pc } = true := by decide

theorem witness_Jumps :
    [.btjrf_RA_rb 0x80#8 1#4 7#3, .btjrt_RA_rb 0x7F#8 1#4 0#3, .jp_cc_DA .nc 0xFFFF#16, .jr_cc_RA .f 0x80#8, .jp_IRR 0x10#8].all
        (fun i => meetsOf s1 (s1.jumpAccess i)) = true := by decide

theorem witness_CallsAndReturn :
    bitOf 0x10#8 0#3 = false
      ∧ [s1, State.reset].all (fun s => meets s { reads := s.pairRPlaces 0x10#8, writes := s.pushesPc, pc := s.pc }
        && meets s { reads := [s.srcI s.spl, s.srcI (s.spl + 1#8)], writes := [(.sys .spl, s.spl + 2#8)], pc := s.pc }) = true := by decide

theorem witness_CallThenReturn : s1.inv = true ∧ s1.srcPage = s1.dstPage := by decide

theorem witness_CompareOrCountAndJump :
    meets s1 { reads := [s1.srcW 4#4, s1.srcWI 4#4, s1.srcW 1#4], writes := [(s1.dstWork 4#4, 0x21#8)], pc := s1.pc } = true := by decide

/-- The last list entry below ROM_TOP, and each of the three instructions. -/
theorem witness_ThreadedCode :
    (fun s : State => s.pc.toNat + 1 ≤ s.launch.part.romTop
      ∧ meets s { writes := s.pushes s.spl [s.ipl, s.iph] ++ [(.sys .iph, 0x80#8), (.sys .ipl, 0x00#8)], pc := s.pc } = true
      ∧ (s.pairI s.spl).toNat + 1 ≤ s.launch.part.romTop
      ∧ meets s { reads := [s.srcI s.spl, s.srcI (s.spl + 1#8)],
                  writes := [(.sys .spl, s.spl + 2#8), (.sys .iph, 0x00#8), (.sys .ipl, 0x02#8)], pc := s.pc } = true
      ∧ (wordFrom s.iph s.ipl).toNat + 1 ≤ s.launch.part.romTop
      ∧ meets s { writes := [(.sys .iph, 0x00#8), (.sys .ipl, 0x02#8)], pc := s.pc } = true)
      (s1.setPc 0x7FFE#16) := by decide

theorem witness_NormalReturn : s1.inv = true ∧ s1.flag .fis = false := by decide

theorem witness_FastReturn : (State.reset.setFlags 0x02#8).flag .fis = true := by decide

theorem witness_WaitInstructions :
    State.reset.launch.stopKey = none
      ∧ { State.reset with launch := { Launch.default with stopKey := some (.bank false 4#5, 0xA5#8) } }.launch.stopKey
        = some (.bank false 4#5, 0xA5#8) := by decide

/-- As `source3`, at a pin of a port. -/
def pin3 : Source := { source3 with external := true }

/-- As `requested3`, in Stop mode, the request from a pin. -/
def stopped3 (sym : Byte) : State :=
  { requested3 sym 0x08#8 with launch := { Launch.default with vectorMap := chipMap pin3 }, power := .stop }

/-- The three kinds of boundary of `State.settled`: running, Idle mode, Stop mode with a request of a pin. -/
theorem settled_boundaries (sym : Byte) (h : (requested3 sym 0x08#8).inv = true) (hs : (stopped3 sym).inv = true)
    (hp : (stopped3 sym).pending.getLsbD 0 = true ∧ bitOf ((stopped3 sym).stored pin3.enable.reg) pin3.enable.bit = true ∧ bitOf (stopped3 sym).imr pin3.level = true) :
    (requested3 sym 0x08#8).settled ∧ ((requested3 sym 0x08#8).setPower .idle).settled ∧ (stopped3 sym).settled :=
  ⟨⟨h, rfl, .inl ⟨rfl, .inl rfl⟩⟩, ⟨h, rfl, .inr (.inl rfl)⟩, ⟨hs, rfl, .inr (.inr ⟨rfl, 0, pin3, rfl, rfl, hp⟩)⟩⟩

/-- As `requested3`, the source having an odd vector. -/
def oddVector3 : State :=
  { requested3 0x01#8 0x08#8 with launch := { Launch.default with vectorMap := chipMap { source3 with vector := 0xE7#8 } } }

/-- An odd vector, and the stop there (20_memory.md R60; U5). -/
theorem test_odd_vector :
    (oddVector3.settled ∧ oddVector3.served = some (0, { source3 with vector := 0xE7#8 }) ∧ oddVector3.fie = false)
      ∧ step oddVector3 = .refused .oddVector :=
  ⟨⟨⟨by decide, rfl, .inl ⟨rfl, .inl rfl⟩⟩, by decide⟩, rfl⟩

/-- A normal request, with even vector, at each kind of boundary (with an odd one: `test_odd_vector`). -/
theorem witness_NormalEntry :
    ((requested3 0x01#8 0x08#8).settled ∧ ((requested3 0x01#8 0x08#8).setPower .idle).settled ∧ (stopped3 0x01#8).settled)
      ∧ (requested3 0x01#8 0x08#8).served = some (0, source3) ∧ ((requested3 0x01#8 0x08#8).setPower .idle).served = some (0, source3)
      ∧ (stopped3 0x01#8).served = some (0, pin3) ∧ (requested3 0x01#8 0x08#8).fie = false ∧ bitOf source3.vector 0#3 = false
      ∧ bitOf pin3.vector 0#3 = false :=
  ⟨settled_boundaries _ (by decide) (by decide) (by decide), by decide⟩

theorem witness_InterruptThenReturn :
    (requested3 0x01#8 0x08#8).flag .fis = false ∧ (requested3 0x01#8 0x08#8).srcPage = (requested3 0x01#8 0x08#8).dstPage := by decide

theorem witness_FastEntry :
    ((requested3 0x0F#8 0x08#8).settled ∧ ((requested3 0x0F#8 0x08#8).setPower .idle).settled ∧ (stopped3 0x0F#8).settled)
      ∧ (requested3 0x0F#8 0x08#8).served = some (0, source3) ∧ ((requested3 0x0F#8 0x08#8).setPower .idle).served = some (0, source3)
      ∧ (stopped3 0x0F#8).served = some (0, pin3) ∧ (requested3 0x0F#8 0x08#8).fie = true
      ∧ source3.level = (requested3 0x0F#8 0x08#8).fil ∧ pin3.level = (stopped3 0x0F#8).fil :=
  ⟨settled_boundaries _ (by decide) (by decide) (by decide), by decide⟩

/-- A request ends Idle and Stop mode and is taken (46_cpu_control.md R270, R272). -/
theorem test_release_entry :
    (after ((requested3 0x01#8 0x08#8).setPower .idle)).map (fun t => (t.power, t.pc)) = some (.run, 0x0300#16)
      ∧ (after (stopped3 0x01#8)).map (fun t => (t.power, t.pc)) = some (.run, 0x0300#16) := by decide

/-- Two requests of one level and one of a level that ranks lower: the first of the higher level is served. -/
theorem witness_HighestRequestServed :
    { requested3 0x01#8 0xFF#8 with
        launch := { Launch.default with vectorMap := [sourceOf 1#3, sourceOf 0#3, sourceOf 0#3] }, pending := 7#22 }.served
      = some (1, sourceOf 0#3) ∧ (requested3 0x00#8 0x08#8).served = none := by decide

/-- The six values of IPR bits 7, 4, 1 with an order, each with the three pairs of groups in the order of the table of 10_state.md R31 (A, B, C
by their first levels). -/
theorem witness_PriorityOrder :
    ([(0x02#8, [2#3, 5#3, 0#3]), (0x10#8, [0#3, 2#3, 5#3]), (0x12#8, [2#3, 0#3, 5#3]), (0x80#8, [5#3, 0#3, 2#3]),
      (0x82#8, [5#3, 2#3, 0#3]), (0x90#8, [0#3, 5#3, 2#3])] : List (Byte × List Tri)).all (fun e =>
        [bitOf e.1 7#3, bitOf e.1 4#3, bitOf e.1 1#3] != [false, false, false]
          && [bitOf e.1 7#3, bitOf e.1 4#3, bitOf e.1 1#3] != [true, true, true]
          && match e.2 with
            | [x, y, z] =>
              (fun s : State => s.outranks x y && s.outranks y z && s.outranks x z
                && !s.outranks y x && !s.outranks z y && !s.outranks z x) (given [(.ipr, e.1)])
            | _ => false) = true := by decide

/-- Each wait, with the request of `source3` masked; the Stop clause also with it unmasked, the source being internal. -/
theorem witness_WaitsHold :
    (requested3 0x01#8 0x00#8).env = [] ∧ ((requested3 0x01#8 0x00#8).setPower .backup).power = .backup
      ∧ ((requested3 0x01#8 0x00#8).setPower .idle).wakes = false ∧ ((requested3 0x01#8 0x08#8).setPower .stop).wakes = false
      ∧ ((requested3 0x00#8 0x08#8).setWaiting true).waiting = true ∧ ((requested3 0x00#8 0x08#8).setWaiting true).served = none := by
  decide

/-- The smallest count that overflows, and the largest that does not; each mode; a low supply in Stop mode of an F and of a G part; the
event of a pin and of an internal source in Stop mode; one input at a boundary. -/
theorem witness_WatchdogReset :
    State.reset.power = .run ∧ State.reset.btcon.toNat / 16 ≠ 0xA ∧ 0x100 ≤ State.reset.btcnt.toNat + 256
      ∧ State.reset.btcnt.toNat + 255 < 0x100 ∧ (given [(.sys .btcon, 0xA0#8)]).btcon.toNat / 16 = 0xA
      ∧ (State.reset.setPower .stop).power = .stop ∧ (State.reset.setPower .stop).launch.part = .f9
      ∧ { State.reset with power := .stop, launch := { Launch.default with part := .g7 } }.launch.part = .g7
      ∧ (stopped3 0x00#8).power = .stop ∧ (stopped3 0x00#8).launch.vectorMap[0]? = some pin3 ∧ pin3.external = true
      ∧ (stopped3 0x00#8).isExternal 1 = false
      ∧ (State.reset.setPower .backup).power = .backup ∧ (State.reset.setEnv [[.resetPinLow]]).env = [.resetPinLow] :: [] := by decide

/-- The RESET pin low and released, as two inputs (60_exceptions.md R314; 70_reset_and_hazards.md R320): Back-up mode, then the reset. -/
theorem test_backup :
    ((given [(.sys .rp0, 0x40#8)]).happen .resetPinLow).power = .backup
      ∧ (((given [(.sys .rp0, 0x40#8)]).happen .resetPinLow).happen .resetRelease).rp0 = 0xC0#8
      ∧ (((given [(.sys .rp0, 0x40#8)]).happen .resetPinLow).happen .resetRelease).power = .run := by decide

/-- The event of a source that nothing enables sets its latch (60_exceptions.md R291); in Stop mode only a pin's does (46_cpu_control.md R272). -/
theorem test_raise :
    (State.reset.happen (.raise 21)).pending = 0x200000#22 ∧ ((stopped3 0x00#8).happen (.raise 1)).pending = 1#22
      ∧ (((stopped3 0x00#8).setPending 0#22).happen (.raise 0)).pending = 1#22 := by decide

/-- Writes to IRQ and to IPR are events (20_memory.md R62), and IRQ is not changed by one. -/
theorem test_volatile_writes :
    (given [(.sys .irq, 0xFF#8)]).events = [⟨.sys .irq, 0xFF#8⟩] ∧ (given [(.sys .irq, 0xFF#8)]).irq = 0x00#8
      ∧ (given [(.ipr, 0x10#8)]).events = [⟨.ipr, 0x10#8⟩] ∧ (given [(.ipr, 0x10#8)]).ipr = 0x10#8 := by decide

theorem witness_OddPairsStop :
    bitOf 0x41#8 0#3 = true ∧ bitOf 0x40#8 0#3 = false
      ∧ sources.all (fun g => (g.reads s1).all s1.readable) = true ∧ (s1.pairRPlaces 0x40#8).all s1.readable = true
      ∧ s1.readable (s1.srcR 0x11#8) = true ∧ s1.look (s1.srcR 0x11#8) = 0x05#8 ∧ bitOf 0x05#8 0#3 = true
      ∧ s1.look (s1.srcR 0x10#8) = 0x20#8 ∧ s1.readable (s1.srcI 0x20#8) = true := by decide

/-- As `s1`, with 34 of the 66 addresses of `PERIPHERAL_MAP` missing: D0H to D2H and the first 31 of bank 0, or the last 34. -/
def holes (l : List Loc) : State := { s1 with launch := { Launch.default with absent := l } }

/-- The last places at which an encoding with so many bytes lies at or below ROM_TOP. -/
def codeAtTop (bytes : List Byte) : State := withRom (State.reset.setPc (0x8000#16 - BitVec.ofNat 16 bytes.length)) (0x8000 - bytes.length) bytes

theorem fetchesNext_codeAtTop (bytes : List Byte) : (codeAtTop bytes).fetchesNext := ⟨rfl, rfl, rfl, rfl⟩

/-- SYM.0 set; the first page that does not exist; either page missing; registers missing of D0H to D2H and of each bank, in states with the
invariant; the first address above ROM_TOP. -/
theorem witness_GuardedAccessesStop :
    (given [(.sys .sym, 0x01#8)]).ie = true ∧ s1.launch.nPages ≤ (0x01#8 : Byte).toNat % 16 ∧ s1.launch.nPages ≤ (0x10#8 : Byte).toNat / 16
      ∧ s1.inv = true ∧ { s1 with pp := 0x10#8 }.launch.nPages ≤ { s1 with pp := 0x10#8 }.dstPage.toNat
      ∧ { s1 with pp := 0x01#8 }.launch.nPages ≤ { s1 with pp := 0x01#8 }.srcPage.toNat
      ∧ ((holes (peripheralPlaces.take 34)).inv = true ∧ (holes (peripheralPlaces.take 34)).flag .ba = false)
      ∧ (((holes (peripheralPlaces.drop 32)).setFlags 0x01#8).inv = true ∧ ((holes (peripheralPlaces.drop 32)).setFlags 0x01#8).flag .ba = true)
      ∧ [Loc.sys .t0cnt, .sys .t0data, .sys .t0con, .bank false 0#5, .bank false 30#5].all (peripheralPlaces.take 34).contains = true
      ∧ [Loc.bank true 0#5, .bank true 31#5].all (peripheralPlaces.drop 32).contains = true
      ∧ (given [(r 2#4, 0x80#8)]).launch.part.romTop < ((given [(r 2#4, 0x80#8)]).pairW 1#3).toNat
      ∧ ((given [(r 2#4, 0x80#8)]).pairWPlaces 1#3).all (given [(r 2#4, 0x80#8)]).readable = true := by decide

/-- Each clause on a step, at the last pc it speaks of; the first one at the first pc above ROM_TOP, the second with LD R,#im cut after its
second byte. -/
theorem witness_GuardedAccessesStop_step :
    (State.reset.launch.part.romTop < (State.reset.setPc 0x8000#16).pc.toNat)
      ∧ ((encode (.ld_R_IM 0x00#8 0x00#8))[0]? = some ((codeAtTop [0xE6#8, 0x00#8]).codeAt 0)
        ∧ State.reset.launch.part.romTop + 1 < (codeAtTop [0xE6#8, 0x00#8]).pc.toNat + (encode (.ld_R_IM 0x00#8 0x00#8)).length)
      ∧ ([[0xD5#8], [0x31#8, 0x03#8], [0x57#8, 0x01#8], [0xD4#8, 0x01#8], [0xA0#8, 0x01#8], [0x17#8, 0x01#8, 0x00#8],
          [0x84#8, 0x00#8, 0x01#8], [0xC4#8, 0x01#8, 0x00#8], [0xC6#8, 0x01#8, 0x00#8, 0x00#8]] : List (List Byte)).all (fun b =>
        decide ((codeAtTop b).pc.toNat + (b.length - 1) = State.reset.launch.part.romTop)
          && (List.range b.length).map (codeAtTop b).codeAt == b) = true := by decide

/-- The stops of a fetch (20_memory.md R54; 30_encoding.md R88). -/
theorem test_fetch_stops :
    step (State.reset.setPc 0x8000#16) = .fault .progAddressOutOfRange ∧ step (codeAtTop [0xE6#8, 0x00#8]) = .fault .progAddressOutOfRange
      ∧ step (codeAtTop [0xD5#8]) = .fault .illegalOpcode ∧ step (codeAtTop [0xD4#8, 0x01#8]) = .refused .oddTableAddress
      ∧ step (codeAtTop [0xA0#8, 0x01#8]) = .refused .oddPair := ⟨rfl, rfl, rfl, rfl, rfl⟩

end Sys2Proof.Tests
end

/-! PROOFS. The invariant of the machine: what each update of the state does to it, what each shared operation does to it, and the
step that keeps it. -/

namespace Sys2Proof.Machine

/-! ## The invariant and the plain updates -/

/-- The invariant, part by part. -/
theorem State.inv_iff {s : State} :
    s.inv = true ↔ s.regs.wf .registers = true ∧ s.rom.wf .program = true ∧ s.data.wf .external = true
      ∧ s.rp0 &&& 0x07#8 = 0#8 ∧ s.rp1 &&& 0x07#8 = 0#8 ∧ s.sym &&& 0xE0#8 = 0#8 ∧ s.btcon &&& 0x03#8 = 0#8
      ∧ s.clkcon &&& 0x67#8 = 0#8 ∧ s.pagesExist s.pp = true ∧ s.launch.conforms = true := by
  simp [State.inv, and_assoc]

@[simp] theorem State.inv_setFlags (s : State) (v : Byte) : (s.setFlags v).inv = s.inv := rfl

@[simp] theorem State.inv_updateFlags (s : State) (u : FlagUpdate) : (s.updateFlags u).inv = s.inv := by
  obtain ⟨b, hb⟩ := s.updateFlags_eq u
  rw [hb, State.inv_setFlags]

@[simp] theorem State.inv_jumpIf (s : State) (c : Bool) (ra : Byte) : (s.jumpIf c ra).inv = s.inv := by
  cases c <;> rfl

/-! The updates of the fields the invariant speaks of, each with what keeps it. -/

theorem State.inv_setRegs {s : State} (hs : s.inv = true) {m : Memory} (hm : m.wf .registers = true) : (s.setRegs m).inv = true := by
  obtain ⟨-, rest⟩ := State.inv_iff.1 hs
  exact State.inv_iff.2 ⟨hm, rest⟩

theorem State.inv_setData {s : State} (hs : s.inv = true) {m : Memory} (hm : m.wf .external = true) : (s.setData m).inv = true := by
  obtain ⟨hregs, hrom, -, rest⟩ := State.inv_iff.1 hs
  exact State.inv_iff.2 ⟨hregs, hrom, hm, rest⟩

theorem State.inv_setRp0 {s : State} (hs : s.inv = true) {v : Byte} (hv : v &&& 0x07#8 = 0#8) : (s.setRp0 v).inv = true := by
  obtain ⟨hregs, hrom, hdata, -, rest⟩ := State.inv_iff.1 hs
  exact State.inv_iff.2 ⟨hregs, hrom, hdata, hv, rest⟩

theorem State.inv_setRp1 {s : State} (hs : s.inv = true) {v : Byte} (hv : v &&& 0x07#8 = 0#8) : (s.setRp1 v).inv = true := by
  obtain ⟨hregs, hrom, hdata, hrp0, -, rest⟩ := State.inv_iff.1 hs
  exact State.inv_iff.2 ⟨hregs, hrom, hdata, hrp0, hv, rest⟩

theorem State.inv_setSym {s : State} (hs : s.inv = true) {v : Byte} (hv : v &&& 0xE0#8 = 0#8) : (s.setSym v).inv = true := by
  obtain ⟨hregs, hrom, hdata, hrp0, hrp1, -, rest⟩ := State.inv_iff.1 hs
  exact State.inv_iff.2 ⟨hregs, hrom, hdata, hrp0, hrp1, hv, rest⟩

theorem State.inv_setBtcon {s : State} (hs : s.inv = true) {v : Byte} (hv : v &&& 0x03#8 = 0#8) : (s.setBtcon v).inv = true := by
  obtain ⟨hregs, hrom, hdata, hrp0, hrp1, hsym, -, rest⟩ := State.inv_iff.1 hs
  exact State.inv_iff.2 ⟨hregs, hrom, hdata, hrp0, hrp1, hsym, hv, rest⟩

theorem State.inv_setClkcon {s : State} (hs : s.inv = true) {v : Byte} (hv : v &&& 0x67#8 = 0#8) : (s.setClkcon v).inv = true := by
  obtain ⟨hregs, hrom, hdata, hrp0, hrp1, hsym, hbtcon, -, rest⟩ := State.inv_iff.1 hs
  exact State.inv_iff.2 ⟨hregs, hrom, hdata, hrp0, hrp1, hsym, hbtcon, hv, rest⟩

theorem State.inv_setPp {s : State} (hs : s.inv = true) {v : Byte} (hv : s.pagesExist v = true) : (s.setPp v).inv = true := by
  obtain ⟨hregs, hrom, hdata, hrp0, hrp1, hsym, hbtcon, hclkcon, -, hlaunch⟩ := State.inv_iff.1 hs
  exact State.inv_iff.2 ⟨hregs, hrom, hdata, hrp0, hrp1, hsym, hbtcon, hclkcon, hv, hlaunch⟩

/-- Bits a mask takes away are 0 under every mask of those bits. -/
theorem and_and_of_disjoint (v : Byte) {m k : Byte} (h : m &&& k = 0#8) : (v &&& m) &&& k = 0#8 := by
  rw [BitVec.and_assoc, h, BitVec.and_zero]

/-- SYM.0 is a bit the invariant leaves free (10_state.md R28). -/
theorem State.inv_putIe {s : State} (hs : s.inv = true) (b : Bool) : (s.putIe b).inv = true := by
  have keeps : ∀ v : Byte, v &&& 0xE0#8 = 0#8 → withBit v 0#3 b &&& 0xE0#8 = 0#8 := by
    intro v hv
    cases b
    · simp only [withBit, Bool.false_eq_true, if_false]
      rw [BitVec.and_assoc, BitVec.and_comm _ 0xE0#8, ← BitVec.and_assoc, hv, BitVec.zero_and]
    · simp only [withBit, if_true]
      rw [BitVec.and_or_distrib_right, hv]; rfl
  obtain ⟨-, -, -, -, -, hsym, -⟩ := State.inv_iff.1 hs
  exact State.inv_setSym hs (keeps _ hsym)

end Sys2Proof.Machine


namespace Sys2Proof.Machine

/-! ## The invariant and the writes -/

/-- A system control register stores only the bits it has (10_state.md R27, R28, R33, R34), PP only pages that exist (R32). -/
theorem State.inv_pokeSys {s : State} (hs : s.inv = true) (r : SysReg) (v : Byte) (hw : s.writable s.ie (.sys r, v) = true) :
    (s.pokeSys r v).inv = true := by
  cases r with
  | btcon => exact State.inv_setBtcon (s := s.setBtcnt _) hs (and_and_of_disjoint v rfl)
  | clkcon => exact State.inv_setClkcon hs (and_and_of_disjoint v rfl)
  | rp0 => exact State.inv_setRp0 hs (and_and_of_disjoint v rfl)
  | rp1 => exact State.inv_setRp1 hs (and_and_of_disjoint v rfl)
  | sym => exact State.inv_setSym hs (and_and_of_disjoint v rfl)
  | pp => exact State.inv_setPp hs ((s.pagesExist_eq v).trans hw)
  | t0cnt | t0data | t0con | flags | sph | spl | iph | ipl | irq | imr => exact hs

/-- A write that can be made keeps the invariant. -/
theorem State.inv_poke {s : State} (hs : s.inv = true) (l : Loc) (v : Byte) (hw : s.writable s.ie (l, v) = true) :
    (s.poke l v).inv = true := by
  cases l with
  | ram p a => exact State.inv_setRegs hs (Memory.wf_write (State.inv_regs hs) _ _)
  | common n => exact State.inv_setRegs hs (Memory.wf_write (State.inv_regs hs) _ _)
  | bank b n => exact State.inv_setRegs hs (Memory.wf_write (State.inv_regs hs) _ _)
  | sys r => exact State.inv_pokeSys hs r v hw
  | ipr => exact hs

/-! ## Operations that keep the invariant -/

/-- Whatever result the operation has, it meets P. -/
def Res.Ensures {α : Type} (P : α → Prop) (r : Res α) : Prop := ∀ a, r = .ok a → P a

/-- The operation leads to states with the invariant only. -/
abbrev KeepsInv (r : Res State) : Prop := Res.Ensures (fun t => t.inv = true) r

/-- As `KeepsInv`, for an operation that also answers a value. -/
abbrev KeepsInvPair {α : Type} (r : Res (α × State)) : Prop := Res.Ensures (fun x => x.2.inv = true) r

section
variable {α β : Type}

theorem Res.ensures_ok {P : α → Prop} {a : α} (h : P a) : Res.Ensures P (.ok a) := fun _ e => by cases e; exact h

theorem Res.ensures_error {P : α → Prop} (e : Stop) : Res.Ensures P (.error e) := fun _ h => by cases h

/-- A sequence ensures what its second part ensures after what its first part does. -/
theorem Res.ensures_bind {P : α → Prop} {Q : β → Prop} {x : Res α} {f : α → Res β} (hx : Res.Ensures P x)
    (hf : ∀ a, P a → Res.Ensures Q (f a)) : Res.Ensures Q (x >>= f) := by
  intro b hb
  obtain ⟨a, ha, hfa⟩ := bind_eq_ok.1 hb
  exact hf a (hx a ha) b hfa

/-- A sequence whose first part only answers a value. -/
theorem Res.ensures_read {Q : β → Prop} {x : Res α} {f : α → Res β} (hf : ∀ a, Res.Ensures Q (f a)) : Res.Ensures Q (x >>= f) :=
  Res.ensures_bind (P := fun _ => True) (fun _ _ => trivial) fun a _ => hf a

theorem Res.ensures_evenOr {P : α → Prop} {k : Res α} (h : Res.Ensures P k) (a : Byte) (r : Refusal) :
    Res.Ensures P (evenOr a r k) := by
  cases he : bitAt a 0#3 with
  | true => rw [evenOr_odd he]; exact Res.ensures_error _
  | false => rw [evenOr_even he]; exact h

theorem Res.ensures_ite {P : α → Prop} {c : Prop} [Decidable c] {x y : Res α} (hx : Res.Ensures P x) (hy : Res.Ensures P y) :
    Res.Ensures P (if c then x else y) := by
  split
  · exact hx
  · exact hy

end

section
variable {s : State}

theorem State.keepsInv_writeLoc (hs : s.inv = true) (l : Loc) (v : Byte) : KeepsInv (s.writeLoc l v) := by
  intro t ht
  obtain ⟨hw, rfl⟩ := State.writeLoc_eq_ok.1 ht
  exact State.inv_poke hs l v hw

theorem State.keepsInv_writeTwo (hs : s.inv = true) (l m : Loc) (a b : Byte) : KeepsInv (s.writeTwo l m a b) :=
  Res.ensures_bind (State.keepsInv_writeLoc hs l a) fun _ h1 => State.keepsInv_writeLoc h1 m b

theorem State.keepsInv_dataWrite (hs : s.inv = true) (a : Word) (v : Byte) : KeepsInv (s.dataWrite a v) := by
  intro t ht
  obtain ⟨-, rfl⟩ := State.dataWrite_eq_ok.1 ht
  exact State.inv_setData hs (Memory.wf_write (State.inv_data hs) _ _)

theorem State.keepsInv_push8 (hs : s.inv = true) (v : Byte) : KeepsInv (s.push8 v) :=
  State.keepsInv_writeLoc (s := s.setSpl (s.spl - 1#8)) hs _ v

theorem State.keepsInv_push16 (hs : s.inv = true) (w : Word) : KeepsInv (s.push16 w) :=
  Res.ensures_bind (State.keepsInv_push8 hs _) fun _ h1 => State.keepsInv_push8 h1 _

theorem State.keepsInv_pop8 (hs : s.inv = true) : KeepsInvPair s.pop8 := Res.ensures_read fun _ => Res.ensures_ok hs

theorem State.keepsInv_pop16 (hs : s.inv = true) : KeepsInvPair s.pop16 :=
  Res.ensures_bind (State.keepsInv_pop8 hs) fun _ h1 => Res.ensures_bind (State.keepsInv_pop8 h1) fun _ h2 => Res.ensures_ok h2

theorem State.keepsInv_flags (hs : s.inv = true) (u : FlagUpdate) : KeepsInv (.ok (s.updateFlags u)) :=
  Res.ensures_ok ((s.inv_updateFlags u).trans hs)

theorem State.keepsInv_jumpIf (hs : s.inv = true) (c : Bool) (ra : Byte) : KeepsInv (.ok (s.jumpIf c ra)) :=
  Res.ensures_ok ((s.inv_jumpIf c ra).trans hs)

/-! The shapes of Operands.lean. -/

theorem State.keepsInv_storeResult (hs : s.inv = true) (l : Loc) (r : AluResult) : KeepsInv (s.storeResult l r) :=
  Res.ensures_bind (State.keepsInv_writeLoc hs l _) fun _ h1 => State.keepsInv_flags h1 _

theorem State.keepsInv_storePair (hs : s.inv = true) (l m : Loc) (r : PairResult) : KeepsInv (s.storePair l m r) :=
  Res.ensures_bind (State.keepsInv_writeTwo hs l m _ _) fun _ h1 => State.keepsInv_flags h1 _

theorem State.keepsInv_alu_r_r (hs : s.inv = true) (f : Byte → Byte → AluResult) (d n : Nibble) : KeepsInv (s.alu_r_r f d n) :=
  Res.ensures_read fun _ => Res.ensures_read fun _ => State.keepsInv_storeResult hs _ _

theorem State.keepsInv_alu_r_Ir (hs : s.inv = true) (f : Byte → Byte → AluResult) (d n : Nibble) : KeepsInv (s.alu_r_Ir f d n) :=
  Res.ensures_read fun _ => Res.ensures_read fun _ => State.keepsInv_storeResult hs _ _

theorem State.keepsInv_alu_R_R (hs : s.inv = true) (f : Byte → Byte → AluResult) (d n : Byte) : KeepsInv (s.alu_R_R f d n) :=
  Res.ensures_read fun _ => Res.ensures_read fun _ => State.keepsInv_storeResult hs _ _

theorem State.keepsInv_alu_R_IR (hs : s.inv = true) (f : Byte → Byte → AluResult) (d n : Byte) : KeepsInv (s.alu_R_IR f d n) :=
  Res.ensures_read fun _ => Res.ensures_read fun _ => State.keepsInv_storeResult hs _ _

theorem State.keepsInv_alu_R_IM (hs : s.inv = true) (f : Byte → Byte → AluResult) (d im : Byte) : KeepsInv (s.alu_R_IM f d im) :=
  Res.ensures_read fun _ => State.keepsInv_storeResult hs _ _

theorem State.keepsInv_test_r_r (hs : s.inv = true) (f : Byte → Byte → FlagUpdate) (d n : Nibble) : KeepsInv (s.test_r_r f d n) :=
  Res.ensures_read fun _ => Res.ensures_read fun _ => State.keepsInv_flags hs _

theorem State.keepsInv_test_r_Ir (hs : s.inv = true) (f : Byte → Byte → FlagUpdate) (d n : Nibble) : KeepsInv (s.test_r_Ir f d n) :=
  Res.ensures_read fun _ => Res.ensures_read fun _ => State.keepsInv_flags hs _

theorem State.keepsInv_test_R_R (hs : s.inv = true) (f : Byte → Byte → FlagUpdate) (d n : Byte) : KeepsInv (s.test_R_R f d n) :=
  Res.ensures_read fun _ => Res.ensures_read fun _ => State.keepsInv_flags hs _

theorem State.keepsInv_test_R_IR (hs : s.inv = true) (f : Byte → Byte → FlagUpdate) (d n : Byte) : KeepsInv (s.test_R_IR f d n) :=
  Res.ensures_read fun _ => Res.ensures_read fun _ => State.keepsInv_flags hs _

theorem State.keepsInv_test_R_IM (hs : s.inv = true) (f : Byte → Byte → FlagUpdate) (d im : Byte) : KeepsInv (s.test_R_IM f d im) :=
  Res.ensures_read fun _ => State.keepsInv_flags hs _

theorem State.keepsInv_unary_r (hs : s.inv = true) (f : Byte → AluResult) (d : Nibble) : KeepsInv (s.unary_r f d) :=
  Res.ensures_read fun _ => State.keepsInv_storeResult hs _ _

theorem State.keepsInv_unary_R (hs : s.inv = true) (f : Byte → AluResult) (d : Byte) : KeepsInv (s.unary_R f d) :=
  Res.ensures_read fun _ => State.keepsInv_storeResult hs _ _

theorem State.keepsInv_unary_IR (hs : s.inv = true) (f : Byte → AluResult) (d : Byte) : KeepsInv (s.unary_IR f d) :=
  Res.ensures_read fun _ => Res.ensures_read fun _ => State.keepsInv_storeResult hs _ _

theorem State.keepsInv_wide_RR (hs : s.inv = true) (f : Word → PairResult) (d : Byte) : KeepsInv (s.wide_RR f d) :=
  Res.ensures_read fun _ => State.keepsInv_storePair hs _ _ _

theorem State.keepsInv_wide_IR (hs : s.inv = true) (f : Word → PairResult) (d : Byte) : KeepsInv (s.wide_IR f d) :=
  Res.ensures_read fun _ => Res.ensures_read fun _ => State.keepsInv_storePair hs _ _ _

theorem State.keepsInv_multiply (hs : s.inv = true) (d n : Byte) : KeepsInv (s.multiply d n) :=
  Res.ensures_evenOr (Res.ensures_read fun _ => State.keepsInv_storePair hs _ _ _) _ _

theorem State.keepsInv_divide (hs : s.inv = true) (d n : Byte) : KeepsInv (s.divide d n) :=
  Res.ensures_read fun _ =>
    Res.ensures_ite (State.keepsInv_storePair hs _ _ _) (State.keepsInv_writeTwo ((s.inv_updateFlags _).trans hs) _ _ _ _)

theorem State.keepsInv_bit_r0_Rb (hs : s.inv = true) (f : Bool → Bool → Bool) (d : Nibble) (n : Byte) (b : Tri) :
    KeepsInv (s.bit_r0_Rb f d n b) :=
  Res.ensures_read fun _ => Res.ensures_read fun _ => State.keepsInv_storeResult hs _ _

theorem State.keepsInv_bit_Rb_r0 (hs : s.inv = true) (f : Bool → Bool → Bool) (d : Byte) (b : Tri) (n : Nibble) :
    KeepsInv (s.bit_Rb_r0 f d b n) :=
  Res.ensures_read fun _ => Res.ensures_read fun _ => State.keepsInv_storeResult hs _ _

/-! The shapes of Load.lean. -/

theorem State.keepsInv_loadMem (hs : s.inv = true) (x : Bool) (d : Nibble) (a : Word) : KeepsInv (s.loadMem x d a) :=
  Res.ensures_read fun _ => State.keepsInv_writeLoc hs _ _

theorem State.keepsInv_loadPair (hs : s.inv = true) (x : Bool) (d : Nibble) (p : Tri) (o : Word) : KeepsInv (s.loadPair x d p o) :=
  Res.ensures_read fun _ => State.keepsInv_loadMem hs x d _

theorem State.keepsInv_loadStep (hs : s.inv = true) (x : Bool) (d : Nibble) (p : Tri) (o : Word) : KeepsInv (s.loadStep x d p o) :=
  Res.ensures_read fun _ => Res.ensures_read fun _ =>
    Res.ensures_ite (State.keepsInv_writeTwo hs _ _ _ _)
      (Res.ensures_ite (State.keepsInv_writeTwo hs _ _ _ _)
        (Res.ensures_bind (State.keepsInv_writeLoc hs _ _) fun _ h1 => State.keepsInv_writeTwo h1 _ _ _ _))

theorem State.keepsInv_storeData (hs : s.inv = true) (p : Tri) (o : Word) (n : Nibble) : KeepsInv (s.storeData p o n) :=
  Res.ensures_read fun _ => Res.ensures_read fun _ => State.keepsInv_dataWrite hs _ _

theorem State.keepsInv_stepStoreData (hs : s.inv = true) (p : Tri) (o : Word) (n : Nibble) : KeepsInv (s.stepStoreData p o n) :=
  Res.ensures_read fun _ => Res.ensures_bind (State.keepsInv_writeTwo hs _ _ _ _) fun _ h1 =>
    Res.ensures_read fun _ => State.keepsInv_dataWrite h1 _ _

theorem State.keepsInv_loadWord (hs : s.inv = true) (d : Byte) (w : Word) : KeepsInv (s.loadWord d w) :=
  Res.ensures_evenOr (State.keepsInv_writeTwo hs _ _ _ _) _ _

theorem State.keepsInv_userPop (hs : s.inv = true) (d n o : Byte) : KeepsInv (s.userPop d n o) :=
  Res.ensures_read fun _ => Res.ensures_read fun _ =>
    Res.ensures_ite (State.keepsInv_writeLoc hs _ _)
      (Res.ensures_bind (State.keepsInv_writeLoc hs _ _) fun _ h1 => State.keepsInv_writeLoc h1 _ _)

theorem State.keepsInv_userPush (hs : s.inv = true) (d n o : Byte) : KeepsInv (s.userPush d n o) :=
  Res.ensures_read fun _ => Res.ensures_read fun _ =>
    Res.ensures_bind (State.keepsInv_writeLoc hs _ _) fun _ h1 => State.keepsInv_writeLoc h1 _ _

/-! The shapes of ProgramControl.lean, and the interrupts. -/

theorem State.keepsInv_callTo (hs : s.inv = true) (w : Word) : KeepsInv (s.callTo w) :=
  Res.ensures_bind (State.keepsInv_push16 hs _) fun _ h1 => Res.ensures_ok h1

theorem State.keepsInv_compareAndStep (hs : s.inv = true) (want : Bool) (d n : Nibble) (ra : Byte) :
    KeepsInv (s.compareAndStep want d n ra) :=
  Res.ensures_read fun _ => Res.ensures_read fun _ => Res.ensures_read fun _ =>
    Res.ensures_bind (State.keepsInv_writeLoc hs _ _) fun _ h1 => State.keepsInv_jumpIf h1 _ _

theorem State.keepsInv_threadTo (hs : s.inv = true) (w : Word) : KeepsInv (s.threadTo w) :=
  Res.ensures_read fun _ => Res.ensures_ok hs

theorem State.keepsInv_returnFromInterrupt (hs : s.inv = true) : KeepsInv s.returnFromInterrupt :=
  Res.ensures_ite (Res.ensures_ok (State.inv_putIe (s := ((((s.setPc s.ip).putIp s.pc).setFlags s.flagsShadow).putFlag .fis false)) hs _))
    (Res.ensures_bind (State.keepsInv_pop8 hs) fun _ h1 =>
      Res.ensures_bind (State.keepsInv_pop16 (s := State.setFlags _ _) h1) fun _ h2 =>
        Res.ensures_ok (State.inv_putIe (s := State.setPc _ _) h2 true))

theorem State.inv_fastEntry (hs : s.inv = true) (n : Nat) : (s.fastEntry n).inv = true :=
  State.inv_putIe (s := (((s.setPc s.ip).putIp s.pc).setFlagsShadow s.flags).putFlag .fis true) hs _

theorem State.keepsInv_normalEntry (hs : s.inv = true) (n : Nat) (src : Source) : KeepsInv (s.normalEntry n src) :=
  Res.ensures_bind (State.keepsInv_push16 (State.inv_putIe hs false) _) fun _ h1 =>
    Res.ensures_bind (State.keepsInv_push8 h1 _) fun _ h2 =>
      Res.ensures_ite (Res.ensures_error _) (Res.ensures_read fun _ => Res.ensures_ok (by cases src.hardwareClear <;> exact h2))

theorem State.keepsInv_takeInterrupt (hs : s.inv = true) (n : Nat) (src : Source) : KeepsInv (s.takeInterrupt n src) :=
  Res.ensures_ite (Res.ensures_ok (State.inv_fastEntry hs n)) (State.keepsInv_normalEntry hs n src)

end

end Sys2Proof.Machine


namespace Sys2Proof.Machine

/-! ## The invariant and a step -/

/-- Whatever next state the outcome has, it has the invariant. -/
def NextHasInv (o : Host.Outcome State Fault Refusal) : Prop := ∀ t, o = .next t → t.inv = true

theorem nextHasInv_next {s : State} (h : s.inv = true) : NextHasInv (.next s) := fun _ e => by cases e; exact h

theorem nextHasInv_refused (r : Refusal) : NextHasInv (.refused r) := fun _ e => by cases e

theorem nextHasInv_finish {r : Res State} (h : KeepsInv r) : NextHasInv (finish r) := fun t e => h t (finish_eq_next.1 e)

theorem nextHasInv_ticked {o : Host.Outcome State Fault Refusal} (h : NextHasInv o) : NextHasInv (ticked o) := by
  cases o with
  | next s => exact nextHasInv_next (h s rfl)
  | fault f => exact fun _ e => by cases e
  | refused r => exact nextHasInv_refused r

/-- Bits 2..0 of the value SRP, SRP0 and SRP1 load are 0 (46_cpu_control.md R267 to R269). -/
theorem pointerValue_low (v : BitVec 5) : (v ++ 0#3 : Byte) &&& 0x07#8 = 0#8 := by revert v; decide

/-- EVERY INSTRUCTION KEEPS THE INVARIANT: by the shape of its meaning. -/
theorem exec_nextHasInv {s : State} (hs : s.inv = true) (i : Instr) : NextHasInv (exec i s) := by
  cases i with
  | add_r_r | adc_r_r | sub_r_r | sbc_r_r | and_r_r | or_r_r | xor_r_r =>
    exact nextHasInv_finish (State.keepsInv_alu_r_r hs _ _ _)
  | add_r_Ir | adc_r_Ir | sub_r_Ir | sbc_r_Ir | and_r_Ir | or_r_Ir | xor_r_Ir =>
    exact nextHasInv_finish (State.keepsInv_alu_r_Ir hs _ _ _)
  | add_R_R | adc_R_R | sub_R_R | sbc_R_R | and_R_R | or_R_R | xor_R_R =>
    exact nextHasInv_finish (State.keepsInv_alu_R_R hs _ _ _)
  | add_R_IR | adc_R_IR | sub_R_IR | sbc_R_IR | and_R_IR | or_R_IR | xor_R_IR =>
    exact nextHasInv_finish (State.keepsInv_alu_R_IR hs _ _ _)
  | add_R_IM | adc_R_IM | sub_R_IM | sbc_R_IM | and_R_IM | or_R_IM | xor_R_IM =>
    exact nextHasInv_finish (State.keepsInv_alu_R_IM hs _ _ _)
  | cp_r_r | tcm_r_r | tm_r_r => exact nextHasInv_finish (State.keepsInv_test_r_r hs _ _ _)
  | cp_r_Ir | tcm_r_Ir | tm_r_Ir => exact nextHasInv_finish (State.keepsInv_test_r_Ir hs _ _ _)
  | cp_R_R | tcm_R_R | tm_R_R => exact nextHasInv_finish (State.keepsInv_test_R_R hs _ _ _)
  | cp_R_IR | tcm_R_IR | tm_R_IR => exact nextHasInv_finish (State.keepsInv_test_R_IR hs _ _ _)
  | cp_R_IM | tcm_R_IM | tm_R_IM => exact nextHasInv_finish (State.keepsInv_test_R_IM hs _ _ _)
  | inc_r => exact nextHasInv_finish (State.keepsInv_unary_r hs _ _)
  | dec_R | inc_R | da_R | com_R | rl_R | rlc_R | rr_R | rrc_R | sra_R | swap_R =>
    exact nextHasInv_finish (State.keepsInv_unary_R hs _ _)
  | dec_IR | inc_IR | da_IR | com_IR | rl_IR | rlc_IR | rr_IR | rrc_IR | sra_IR | swap_IR =>
    exact nextHasInv_finish (State.keepsInv_unary_IR hs _ _)
  | incw_RR | decw_RR => exact nextHasInv_finish (State.keepsInv_wide_RR hs _ _)
  | incw_IR | decw_IR => exact nextHasInv_finish (State.keepsInv_wide_IR hs _ _)
  | mult_RR_IM => exact nextHasInv_finish (State.keepsInv_multiply hs _ _)
  | mult_RR_R | mult_RR_IR => exact nextHasInv_finish (Res.ensures_read fun _ => State.keepsInv_multiply hs _ _)
  | div_RR_IM => exact nextHasInv_finish (State.keepsInv_divide hs _ _)
  | div_RR_R | div_RR_IR => exact nextHasInv_finish (Res.ensures_read fun _ => State.keepsInv_divide hs _ _)
  | band_r0_Rb | bor_r0_Rb | bxor_r0_Rb => exact nextHasInv_finish (State.keepsInv_bit_r0_Rb hs _ _ _ _)
  | band_Rb_r0 | bor_Rb_r0 | bxor_Rb_r0 => exact nextHasInv_finish (State.keepsInv_bit_Rb_r0 hs _ _ _ _)
  | bcp_r0_Rb => exact nextHasInv_finish (Res.ensures_read fun _ => Res.ensures_read fun _ => State.keepsInv_flags hs _)
  | bitc_rb => exact nextHasInv_finish (Res.ensures_read fun _ => State.keepsInv_storeResult hs _ _)
  | clr_R | ld_r_IM | ld_R_IM => exact nextHasInv_finish (State.keepsInv_writeLoc hs _ _)
  | bitr_rb | bits_rb | clr_IR | ld_r_R | ld_R_r | ld_r_Ir | ld_R_R | ld_R_IR | ld_IR_IM =>
    exact nextHasInv_finish (Res.ensures_read fun _ => State.keepsInv_writeLoc hs _ _)
  | ldb_r0_Rb | ldb_Rb_r0 | ld_Ir_r | ld_IR_R | ld_r_X | ld_X_r =>
    exact nextHasInv_finish (Res.ensures_read fun _ => Res.ensures_read fun _ => State.keepsInv_writeLoc hs _ _)
  | ldc_r_Irr | ldc_r_XS | ldc_r_XL | lde_r_Irr | lde_r_XS | lde_r_XL =>
    exact nextHasInv_finish (State.keepsInv_loadPair hs _ _ _ _)
  | ldc_r_DA | lde_r_DA => exact nextHasInv_finish (State.keepsInv_loadMem hs _ _ _)
  | ldcd_r_Irr | lded_r_Irr | ldci_r_Irr | ldei_r_Irr => exact nextHasInv_finish (State.keepsInv_loadStep hs _ _ _ _)
  | ldc_Irr_r | ldc_XS_r | ldc_XL_r | ldc_DA_r | ldcpd_Irr_r | ldcpi_Irr_r => exact nextHasInv_refused _
  | lde_Irr_r | lde_XS_r | lde_XL_r => exact nextHasInv_finish (State.keepsInv_storeData hs _ _ _)
  | lde_DA_r => exact nextHasInv_finish (Res.ensures_read fun _ => State.keepsInv_dataWrite hs _ _)
  | ldepd_Irr_r | ldepi_Irr_r => exact nextHasInv_finish (State.keepsInv_stepStoreData hs _ _ _)
  | ldw_RR_IML => exact nextHasInv_finish (State.keepsInv_loadWord hs _ _)
  | ldw_RR_RR => exact nextHasInv_finish (Res.ensures_read fun _ => State.keepsInv_loadWord hs _ _)
  | ldw_RR_IR => exact nextHasInv_finish (Res.ensures_read fun _ => Res.ensures_read fun _ => State.keepsInv_loadWord hs _ _)
  | pop_R => exact nextHasInv_finish (Res.ensures_bind (State.keepsInv_pop8 hs) fun _ h1 => State.keepsInv_writeLoc h1 _ _)
  | pop_IR =>
    exact nextHasInv_finish (Res.ensures_bind (State.keepsInv_pop8 hs) fun _ h1 =>
      Res.ensures_read fun _ => State.keepsInv_writeLoc h1 _ _)
  | push_R | push_IR => exact nextHasInv_finish (Res.ensures_read fun _ => State.keepsInv_push8 hs _)
  | popud_R_IR | popui_R_IR => exact nextHasInv_finish (State.keepsInv_userPop hs _ _ _)
  | pushud_IR_R | pushui_IR_R => exact nextHasInv_finish (State.keepsInv_userPush hs _ _ _)
  | btjrf_RA_rb | btjrt_RA_rb => exact nextHasInv_finish (Res.ensures_read fun _ => State.keepsInv_jumpIf hs _ _)
  | call_DA => exact nextHasInv_finish (State.keepsInv_callTo hs _)
  | call_IRR => exact nextHasInv_finish (Res.ensures_read fun _ => State.keepsInv_callTo hs _)
  | call_IA => exact nextHasInv_finish (Res.ensures_evenOr (Res.ensures_read fun _ => State.keepsInv_callTo hs _) _ _)
  | ret => exact nextHasInv_finish (Res.ensures_bind (State.keepsInv_pop16 hs) fun _ h1 => Res.ensures_ok h1)
  | cpije_r_Ir_RA | cpijne_r_Ir_RA => exact nextHasInv_finish (State.keepsInv_compareAndStep hs _ _ _ _)
  | djnz_r_RA =>
    exact nextHasInv_finish (Res.ensures_read fun _ =>
      Res.ensures_bind (State.keepsInv_writeLoc hs _ _) fun _ h1 => State.keepsInv_jumpIf h1 _ _)
  | jp_IRR => exact nextHasInv_finish (Res.ensures_read fun _ => Res.ensures_ok hs)
  | jp_cc_DA cc => exact nextHasInv_next (by cases condHolds s.flags cc <;> exact hs)
  | jr_cc_RA => exact nextHasInv_next ((s.inv_jumpIf _ _).trans hs)
  | enter => exact nextHasInv_finish (Res.ensures_bind (State.keepsInv_push16 hs _) fun _ h1 => State.keepsInv_threadTo h1 _)
  | exit => exact nextHasInv_finish (Res.ensures_bind (State.keepsInv_pop16 hs) fun _ h1 => State.keepsInv_threadTo h1 _)
  | next => exact nextHasInv_finish (State.keepsInv_threadTo hs _)
  | iret => exact nextHasInv_finish (State.keepsInv_returnFromInterrupt hs)
  | di | ei => exact nextHasInv_next (State.inv_putIe hs _)
  | srp_IM im =>
    exact nextHasInv_next (State.inv_setRp1 (State.inv_setRp0 hs (pointerValue_low _)) (pointerValue_low (im.extractLsb' 1 4 ++ 1#1)))
  | srp0_IM => exact nextHasInv_next (State.inv_setRp0 hs (pointerValue_low _))
  | srp1_IM => exact nextHasInv_next (State.inv_setRp1 hs (pointerValue_low _))
  | stop => exact nextHasInv_next (by cases s.stopHonoured <;> exact hs)
  | ccf | rcf | scf | sb0 | sb1 | nop | idle | wfi => exact nextHasInv_next hs

/-! ### The boundary -/

/-- A reset leaves every register in a form the invariant allows, page 0 among the pages that exist (10_state.md R40). -/
theorem State.inv_afterReset {s : State} (hs : s.inv = true) : s.afterReset.inv = true := by
  obtain ⟨hregs, hrom, hdata, -, -, -, -, -, -, hlaunch⟩ := State.inv_iff.1 hs
  have hpage : 0 < s.launch.nPages := by
    simp only [Launch.conforms, Bool.and_eq_true, decide_eq_true_eq] at hlaunch
    omega
  have hpp : s.afterReset.pagesExist 0x00#8 = true := by
    simpa [State.pagesExist, State.afterReset] using hpage
  have hrp0 : s.afterReset.rp0 &&& 0x07#8 = 0#8 := show 0xC0#8 &&& 0x07#8 = 0#8 by decide
  have hrp1 : s.afterReset.rp1 &&& 0x07#8 = 0#8 := show 0xC8#8 &&& 0x07#8 = 0#8 by decide
  exact State.inv_iff.2 ⟨Memory.wf_filter hregs _, hrom, hdata, hrp0, hrp1, and_and_of_disjoint _ rfl, BitVec.zero_and,
    BitVec.zero_and, hpp, hlaunch⟩

theorem State.inv_raise {s : State} (hs : s.inv = true) (n : Nat) : (s.raise n).inv = true := by
  unfold State.raise
  split
  · exact hs
  · split <;> exact hs
  · exact hs
  · exact hs

theorem State.inv_basicTimer {s : State} (hs : s.inv = true) (n : Nat) : (s.basicTimer n).inv = true := by
  unfold State.basicTimer
  split
  · exact hs
  · exact hs
  all_goals
    split
    · exact State.inv_afterReset hs
    · exact hs

theorem State.inv_happen {s : State} (hs : s.inv = true) (e : EnvEvent) : (s.happen e).inv = true := by
  cases e with
  | raise n => exact State.inv_raise hs n
  | basicTimer n => exact State.inv_basicTimer hs n
  | resetPinLow => exact hs
  | supplyLow => simp only [State.happen, State.supplyLow]; split <;> exact hs
  | resetRelease =>
    simp only [State.happen]
    split
    · exact State.inv_afterReset hs
    · exact hs

/-- The inputs of a boundary, one after another, keep the invariant. -/
theorem State.inv_environment {s : State} (hs : s.inv = true) : s.environment.inv = true := by
  have fold : ∀ (l : List EnvEvent) (s : State), s.inv = true → (l.foldl State.happen s).inv = true := by
    intro l
    induction l with
    | nil => exact fun _ h => h
    | cons e l ih => exact fun s h => ih _ (State.inv_happen h e)
  unfold State.environment
  split
  · exact hs
  · exact fold _ _ hs

/-- The state a boundary leads on from. -/
def Boundary.state : Boundary → State
  | .wait s => s
  | .enter _ _ s => s
  | .execute s => s

theorem State.inv_powerDownBoundary (s : State) : s.powerDownBoundary.state.inv = s.inv := by
  unfold State.powerDownBoundary
  repeat' split
  all_goals rfl

theorem State.inv_runBoundary (s : State) : s.runBoundary.state.inv = s.inv := by
  unfold State.runBoundary
  repeat' split
  all_goals rfl

/-- A boundary changes the modes only. -/
theorem State.inv_boundary (s : State) : s.boundary.state.inv = s.inv := by
  unfold State.boundary
  split
  · rfl
  · exact s.inv_runBoundary
  · exact s.inv_powerDownBoundary
  · exact s.inv_powerDownBoundary

/-- Settles O7: the inputs keep the invariant, the boundary leaves it alone, and so do the entry and every instruction keep it. -/
theorem stepKeepsInvariant : Obligations.StepKeepsInvariant := by
  intro s t hs
  have hb : s.environment.boundary.state.inv = true := (State.inv_boundary _).trans (State.inv_environment hs)
  suffices NextHasInv (step s) from this t
  unfold step
  cases h : s.environment.boundary with
  | wait s1 =>
    rw [h] at hb
    exact nextHasInv_next hb
  | enter n src s1 =>
    rw [h] at hb
    exact nextHasInv_ticked (nextHasInv_finish (State.keepsInv_takeInterrupt (s := s1.setLatency false) hb n src))
  | execute s1 =>
    rw [h] at hb
    cases hf : s1.fetch with
    | error e => simp only [hf]; exact nextHasInv_finish (Res.ensures_error e)
    | ok x => simp only [hf]; exact nextHasInv_ticked (exec_nextHasInv (s := s1.beginInstr x.2) hb x.1)

/-- Settles O6: part by part. -/
theorem resetHasInvariant : Obligations.ResetHasInvariant := by
  unfold Obligations.ResetHasInvariant
  exact State.inv_iff.2 ⟨rfl, rfl, rfl, rfl, rfl, rfl, rfl, rfl, rfl, by decide⟩

end Sys2Proof.Machine


/-! PROOFS. Operands: the working-register window, register addressing, and the names of one byte. -/

namespace Sys2Proof.Machine

/-- The address of a working register, as R13 writes it. -/
theorem State.workAddr_eq (s : State) (n : Nibble) :
    s.workAddr n = BitVec.ofNat 8 ((if n.toNat < 8 then s.rp0 else s.rp1).toNat / 8 * 8 + n.toNat % 8) := by
  have window : ∀ (p : Byte) (n : Nibble), (p.extractLsb' 3 5 ++ n.extractLsb' 0 3 : Byte) = BitVec.ofNat 8 (p.toNat / 8 * 8 + n.toNat % 8) := by
    intro p n
    have hp : (p.extractLsb' 3 5).toNat = p.toNat / 8 := by
      have := p.isLt
      simp only [BitVec.extractLsb'_toNat, Nat.shiftRight_eq_div_pow]
      omega
    have hn : (n.extractLsb' 0 3).toNat = n.toNat % 8 := by simp [BitVec.extractLsb'_toNat]
    apply BitVec.eq_of_toNat_eq
    have := p.isLt
    rw [BitVec.toNat_append, hp, hn, ← Nat.shiftLeft_add_eq_or_of_lt (by omega), Nat.shiftLeft_eq, BitVec.toNat_ofNat]
    omega
  have upper : n.getLsbD 3 = !decide (n.toNat < 8) := by revert n; decide
  rw [State.workAddr, upper, window]
  by_cases h : n.toNat < 8 <;> simp [h]

/-- Settles O10: the window's address is the pointer's block and the number's low bits. -/
theorem workingRegisterWindow : Obligations.WorkingRegisterWindow := by
  intro s n page
  rw [State.workLoc, State.workAddr_eq]

/-! ## Register addressing -/

/-- The high nibble of an address is CH exactly from C0H to CFH. -/
theorem highNibble_eq_C (a : Byte) : a.extractLsb' 4 4 = 0xC#4 ↔ 0xC0 ≤ a.toNat ∧ a.toNat < 0xD0 := by revert a; decide

/-- The low nibble, from a multiple of sixteen. -/
theorem lowNibble_eq (a : Byte) {b : Nat} (hb : b % 16 = 0) (h : b ≤ a.toNat) : a.extractLsb' 0 4 = BitVec.ofNat 4 (a.toNat - b) := by
  apply BitVec.eq_of_toNat_eq
  simp only [BitVec.extractLsb'_toNat, Nat.shiftRight_zero, BitVec.toNat_ofNat]
  omega

/-- The low five bits, from a multiple of thirty-two. -/
theorem lowFive_eq (a : Byte) {b : Nat} (hb : b % 32 = 0) (h : b ≤ a.toNat) : a.extractLsb' 0 5 = BitVec.ofNat 5 (a.toNat - b) := by
  apply BitVec.eq_of_toNat_eq
  simp only [BitVec.extractLsb'_toNat, Nat.shiftRight_zero, BitVec.toNat_ofNat]
  omega

/-- The sixteen system control registers in the order of their addresses (10_state.md R26). -/
theorem SysReg.ofNibble_ofNat : ∀ k, (h : k < 16) → SysReg.ofNibble (BitVec.ofNat 4 k) =
    [SysReg.t0cnt, .t0data, .t0con, .btcon, .clkcon, .flags, .rp0, .rp1, .sph, .spl, .iph, .ipl, .irq, .imr, .sym, .pp][k]'h := by
  decide

section
variable (s : State) (page : Nibble) {a : Byte}

theorem State.regLoc_work (h1 : 0xC0 ≤ a.toNat) (h2 : a.toNat < 0xD0) :
    s.regLoc page a = s.workLoc page (BitVec.ofNat 4 (a.toNat - 0xC0)) := by
  rw [State.regLoc, if_pos ((highNibble_eq_C a).2 ⟨h1, h2⟩), lowNibble_eq a (by decide) h1]

/-- Outside C0H to CFH a register address is the address of the file itself. -/
theorem State.regLoc_phys (h : a.toNat < 0xC0 ∨ 0xD0 ≤ a.toNat) : s.regLoc page a = s.physLoc page a := by
  rw [State.regLoc, if_neg]
  rw [highNibble_eq_C]
  omega

theorem State.physLoc_prime (h : a.toNat < 0xC0) : s.physLoc page a = .ram page a := by rw [State.physLoc, if_pos h]

theorem State.physLoc_common (h1 : 0xC0 ≤ a.toNat) (h2 : a.toNat < 0xD0) :
    s.physLoc page a = .common (BitVec.ofNat 4 (a.toNat - 0xC0)) := by
  rw [State.physLoc, if_neg (by omega), if_pos h2, lowNibble_eq a (by decide) h1]

theorem State.physLoc_sys (h1 : 0xD0 ≤ a.toNat) (h2 : a.toNat < 0xE0) :
    s.physLoc page a = .sys (SysReg.ofNibble (BitVec.ofNat 4 (a.toNat - 0xD0))) := by
  rw [State.physLoc, if_neg (by omega), if_neg (by omega), if_pos h2, lowNibble_eq a (by decide) h1]

theorem State.physLoc_bank (h : 0xE0 ≤ a.toNat) (hi : ¬(a = 0xFF#8 ∧ s.flag .ba = false)) :
    s.physLoc page a = .bank (s.flag .ba) (BitVec.ofNat 5 (a.toNat - 0xE0)) := by
  rw [State.physLoc, if_neg (by omega), if_neg (by omega), if_neg (by omega), if_neg hi, lowFive_eq a (by decide) h]

theorem State.physLoc_ipr (ha : a = 0xFF#8) (hb : s.flag .ba = false) : s.physLoc page a = .ipr := by
  subst ha
  rw [State.physLoc, if_neg (by decide), if_neg (by decide), if_neg (by decide), if_pos ⟨rfl, hb⟩]

end

/-- Settles O11: one clause an area of the register file. -/
theorem registerAddressing : Obligations.RegisterAddressing := by
  intro s page a
  refine ⟨fun h => ?_, fun h1 h2 => s.regLoc_work page h1 h2, fun h1 h2 => s.physLoc_common page h1 h2, fun k hk ha => ?_,
    fun h hi => ?_, fun ha hb => ?_⟩
  · rw [s.regLoc_phys page (.inl h), s.physLoc_prime page h]
  · rw [s.regLoc_phys page (.inr (by omega)), s.physLoc_sys page (by omega) (by omega), ha, Nat.add_sub_cancel_left,
      SysReg.ofNibble_ofNat k hk]
  · rw [s.regLoc_phys page (.inr (by omega)), s.physLoc_bank page h hi]
  · rw [s.regLoc_phys page (.inr (by rw [ha]; decide)), s.physLoc_ipr page ha hb]

/-! ## One byte, several names -/

/-- After a write of a computed address, with one page for sources and destinations, the page's byte is read. -/
theorem State.readLoc_poke_ram {s : State} (hs : s.inv = true) {p : Nibble} {a : Byte} (hr : s.readable (.ram p a) = true) (v : Byte) :
    (s.poke (.ram p a) v).readLoc (.ram p a) = .ok v := by
  rw [State.readLoc_ok ((State.readable_congr (State.poke_launch s _ _) _).trans hr)]
  have stored : (s.poke (.ram p a) v).stored (.ram p a) = v := by rw [State.stored_poke (State.inv_regs hs), if_pos rfl]; rfl
  exact congrArg Except.ok stored

/-- Settles O12: the three names are the one place of the page that was written. -/
theorem aliasesReadTheWrite : Obligations.AliasesReadTheWrite := by
  intro s t a v n hs ha hpage hw
  have hdst : s.dstReg a = .ram s.srcPage a := by
    rw [State.dstReg, s.regLoc_phys _ (.inl ha), s.physLoc_prime _ ha, hpage]
  rw [hdst] at hw
  obtain ⟨hr, rfl⟩ := State.writeLoc_eq_ok.1 hw
  have hread : (s.poke (.ram s.srcPage a) v).readLoc (.ram s.srcPage a) = .ok v := State.readLoc_poke_ram hs hr v
  refine ⟨hread, ?_, fun hn => ?_⟩
  · rw [State.readReg, State.regLoc_phys _ _ (.inl ha), State.physLoc_prime _ _ ha]
    exact hread
  · have hn' : (s.poke (.ram s.srcPage a) v).workAddr n = a := by
      rw [show (s.poke (.ram s.srcPage a) v).workAddr n = s.workAddr n from rfl, State.workAddr_eq, hn, BitVec.ofNat_toNat,
        BitVec.setWidth_eq]
    rw [State.readWork, State.workLoc, hn', State.physLoc_prime _ _ ha]
    exact hread

end Sys2Proof.Machine


/-! PROOFS. The request register, the priority order, signed overflow. -/

namespace Sys2Proof.Machine

/-! ## IRQ -/

/-- Bit lv of one level's mask. -/
theorem bitAt_or_level (x : Byte) (lv m : Tri) :
    bitAt (x ||| (1#8 <<< m.toNat)) lv = (bitAt x lv || decide (m = lv)) := by
  have mask : bitAt (1#8 <<< m.toNat) lv = decide (m = lv) := by revert m lv; decide
  rw [← mask]
  exact BitVec.getLsbD_or

/-- Bit lv of the levels requested by the sources from number n on. -/
theorem State.bitAt_requestLevels (s : State) (lv : Tri) (l : List Source) (n : Nat) :
    bitAt (s.requestLevels n l) lv = true ↔ ∃ k src, l[k]? = some src ∧ src.level = lv ∧ s.requested (n + k) src = true := by
  induction l generalizing n with
  | nil => simp [State.requestLevels, bitAt]
  | cons x xs ih =>
    have tail := ih (n + 1)
    have head : bitAt (s.requestLevels n (x :: xs)) lv = true
        ↔ (x.level = lv ∧ s.requested n x = true) ∨ bitAt (s.requestLevels (n + 1) xs) lv = true := by
      rw [State.requestLevels]
      cases s.requested n x <;> simp [bitAt_or_level, or_comm]
    rw [head, tail]
    constructor
    · rintro (⟨hl, hr⟩ | ⟨k, src, hk, hl, hr⟩)
      · exact ⟨0, x, rfl, hl, hr⟩
      · exact ⟨k + 1, src, hk, hl, by rwa [Nat.add_comm k, ← Nat.add_assoc]⟩
    · rintro ⟨k, src, hk, hl, hr⟩
      cases k with
      | zero => cases hk; exact .inl ⟨hl, hr⟩
      | succ k => exact .inr ⟨k, src, hk, hl, by rwa [Nat.add_comm k, ← Nat.add_assoc] at hr⟩

theorem State.requested_iff {s : State} {n : Nat} {src : Source} :
    s.requested n src = true ↔ s.pending.getLsbD n = true ∧ bitOf (s.stored src.enable.reg) src.enable.bit = true := by
  rw [State.requested, Bool.and_eq_true]; rfl

/-- With no latch set IRQ reads 00H. -/
theorem State.irq_of_pending_zero {s : State} (h : s.pending = 0#22) : s.irq = 0x00#8 := by
  have none_requested : ∀ (l : List Source) n, s.requestLevels n l = 0x00#8 := by
    intro l
    induction l with
    | nil => exact fun _ => rfl
    | cons x xs ih => intro n; simp [State.requestLevels, State.requested, h, ih]
  exact none_requested _ 0

/-- DCH is IRQ (10_state.md R26). -/
theorem State.dstReg_irq (s : State) : s.dstReg 0xDC#8 = .sys .irq := by
  rw [State.dstReg, s.regLoc_phys _ (.inr (by decide)), s.physLoc_sys _ (by decide) (by decide)]; rfl

/-- Settles O13: bit by bit over the sources; a write to IRQ leaves its event only. -/
theorem requestRegister : Obligations.RequestRegister := by
  refine ⟨fun s lv => ?_, fun s im => ?_, State.irq_of_pending_zero rfl⟩
  · refine (s.bitAt_requestLevels lv s.launch.vectorMap 0).trans ?_
    simp only [Nat.zero_add, State.requested_iff]
  · have hwrite : s.writeLoc (s.dstReg 0xDC#8) im = .ok (s.recordEvent (.sys .irq) im) := by
      rw [s.dstReg_irq]
      exact State.writeLoc_ok rfl
    exact congrArg finish hwrite

/-! ## Signed overflow -/

/-- The sign of a byte as an order on the naturals. -/
theorem msb_eq_decide (x : Byte) : x.msb = decide (128 ≤ x.toNat) := BitVec.msb_eq_decide x

/-- A signed byte, by its sign. -/
theorem toInt_eq_ite (x : Byte) : x.toInt = if x.toNat < 128 then (x.toNat : Int) else x.toNat - 256 := by
  rw [BitVec.toInt_eq_toNat_cond]
  split <;> split <;> omega

theorem toNat_addResult (cin : Bool) (a b : Byte) : (addResult cin a b).value.toNat = (a.toNat + b.toNat + cin.toNat) % 256 := by
  have hc : (BitVec.ofBool cin).toNat = cin.toNat := BitVec.toNat_ofBool cin
  have := a.isLt; have := b.isLt; have := cin.toNat_le
  simp only [addResult, BitVec.toNat_setWidth, BitVec.toNat_add, hc]
  omega

theorem toNat_subResult (cin : Bool) (a b : Byte) :
    (subResult cin a b).value.toNat = (a.toNat + 512 - b.toNat - cin.toNat) % 256 := by
  have hc : (BitVec.ofBool cin).toNat = cin.toNat := BitVec.toNat_ofBool cin
  have := a.isLt; have := b.isLt; have := cin.toNat_le
  simp only [subResult, BitVec.toNat_setWidth, BitVec.toNat_sub, hc]
  omega

/-- V of an addition: the operands' signs agree and the sum's is the other one, exactly where the signed sum leaves the byte. -/
theorem addResult_overflow (cin : Bool) (a b : Byte) :
    (addResult cin a b).flags.v
      = some (decide (a.toInt + b.toInt + cin.toNat < -128 ∨ 127 < a.toInt + b.toInt + cin.toNat)) := by
  have hv : (addResult cin a b).flags.v = some (a.msb == b.msb && (addResult cin a b).value.msb != a.msb) := rfl
  have := a.isLt; have := b.isLt; have := cin.toNat_le
  rw [hv, Option.some_inj, Bool.eq_iff_iff]
  simp only [msb_eq_decide, toNat_addResult, toInt_eq_ite, Bool.and_eq_true, beq_iff_eq, bne_iff_ne, ne_eq, decide_eq_decide,
    decide_eq_true_eq]
  split <;> split <;> omega

/-- V of a subtraction: the operands' signs differ and the difference has the subtrahend's, exactly where the signed difference leaves
the byte. -/
theorem subResult_overflow (cin : Bool) (a b : Byte) :
    (subResult cin a b).flags.v
      = some (decide (a.toInt - b.toInt - cin.toNat < -128 ∨ 127 < a.toInt - b.toInt - cin.toNat)) := by
  have hv : (subResult cin a b).flags.v = some (a.msb != b.msb && (subResult cin a b).value.msb == b.msb) := rfl
  have := a.isLt; have := b.isLt; have := cin.toNat_le
  rw [hv, Option.some_inj, Bool.eq_iff_iff]
  simp only [msb_eq_decide, toNat_subResult, toInt_eq_ite, Bool.and_eq_true, beq_iff_eq, bne_iff_ne, ne_eq, decide_eq_decide,
    decide_eq_true_eq]
  split <;> split <;> omega

/-- Settles O37: CP is SUB without a borrow before. -/
theorem overflowIsSigned : Obligations.OverflowIsSigned := by
  intro cin a b
  refine ⟨addResult_overflow cin a b, subResult_overflow cin a b, ?_⟩
  have hcp : (compareFlags a b).v = (subResult false a b).flags.v := rfl
  rw [hcp, subResult_overflow]
  simp only [Bool.toNat_false, Int.ofNat_zero, Int.sub_zero]

/-! ## The priority order -/

section
variable (s : State)

/-- Inside a group the order is that of the list. -/
theorem State.outranks_same {x y : Tri} (h : levelGroup x = levelGroup y) :
    s.outranks x y = decide (s.levelsInGroups.idxOf x < s.levelsInGroups.idxOf y) := by rw [State.outranks, if_pos h]

/-- Between groups the order is that of the groups. -/
theorem State.outranks_other {x y : Tri} (h : levelGroup x ≠ levelGroup y) :
    s.outranks x y = groupAbove s.groupOrder (levelGroup x) (levelGroup y) := by rw [State.outranks, if_neg h]

end

/-- The levels in their groups, by the five bits of IPR that order them (10_state.md R31). -/
def levelList (b0 b2 b3 b5 b6 : Bool) : List Tri :=
  (if b0 then [1#3, 0#3] else [0#3, 1#3])
    ++ (if b2 then (if b3 then [4#3, 3#3] else [3#3, 4#3]) ++ [2#3] else 2#3 :: (if b3 then [4#3, 3#3] else [3#3, 4#3]))
    ++ (if b5 then (if b6 then [7#3, 6#3] else [6#3, 7#3]) ++ [5#3] else 5#3 :: (if b6 then [7#3, 6#3] else [6#3, 7#3]))

theorem State.levelsInGroups_eq (s : State) :
    s.levelsInGroups = levelList (bitAt s.ipr 0#3) (bitAt s.ipr 2#3) (bitAt s.ipr 3#3) (bitAt s.ipr 5#3) (bitAt s.ipr 6#3) := rfl

/-- Which of two levels of one group comes first, for all values of the five bits. -/
theorem levelList_order (b0 b2 b3 b5 b6 : Bool) :
    let first := fun x y : Tri => decide ((levelList b0 b2 b3 b5 b6).idxOf x < (levelList b0 b2 b3 b5 b6).idxOf y)
    (first 0#3 1#3 = !b0 ∧ first 1#3 0#3 = b0)
      ∧ (∀ x ∈ [3#3, 4#3], first 2#3 x = !b2 ∧ first x 2#3 = b2)
      ∧ (first 3#3 4#3 = !b3 ∧ first 4#3 3#3 = b3)
      ∧ (∀ x ∈ [6#3, 7#3], first 5#3 x = !b5 ∧ first x 5#3 = b5)
      ∧ (first 6#3 7#3 = !b6 ∧ first 7#3 6#3 = b6) := by
  revert b0 b2 b3 b5 b6
  decide

/-- Group a is the levels 0 and 1, group b 2 to 4, group c 5 to 7 (10_state.md R31). -/
theorem levelGroup_of_mem {x y z : Tri} (hx : x ∈ [0#3, 1#3]) (hy : y ∈ [2#3, 3#3, 4#3]) (hz : z ∈ [5#3, 6#3, 7#3]) :
    levelGroup x = .a ∧ levelGroup y = .b ∧ levelGroup z = .c := by
  revert x y z
  decide

/-- The group order of the six values of IPR bits 7, 4, 1 that the table defines (10_state.md R31): which groups it puts above which. -/
theorem State.groupAbove_groupOrder (s : State) {g : List Bool} (hg : g = [bitAt s.ipr 7#3, bitAt s.ipr 4#3, bitAt s.ipr 1#3])
    (h0 : g ≠ [false, false, false]) (h1 : g ≠ [true, true, true]) :
    groupAbove s.groupOrder .a .b = decide (g = [false, true, false] ∨ g = [true, false, false] ∨ g = [true, true, false])
      ∧ groupAbove s.groupOrder .b .a = decide (g = [false, false, true] ∨ g = [false, true, true] ∨ g = [true, false, true])
      ∧ groupAbove s.groupOrder .b .c = decide (g = [false, false, true] ∨ g = [false, true, false] ∨ g = [false, true, true])
      ∧ groupAbove s.groupOrder .c .b = decide (g = [true, false, false] ∨ g = [true, false, true] ∨ g = [true, true, false])
      ∧ groupAbove s.groupOrder .a .c = decide (g = [false, true, false] ∨ g = [false, true, true] ∨ g = [true, true, false])
      ∧ groupAbove s.groupOrder .c .a = decide (g = [false, false, true] ∨ g = [true, false, false] ∨ g = [true, false, true]) := by
  subst hg
  unfold State.groupOrder
  revert h0 h1
  cases bitAt s.ipr 7#3 <;> cases bitAt s.ipr 4#3 <;> cases bitAt s.ipr 1#3
  · exact fun h0 _ => absurd rfl h0
  on_goal 7 => exact fun _ h1 => absurd rfl h1
  all_goals exact fun _ _ => ⟨rfl, rfl, rfl, rfl, rfl, rfl⟩

/-- Settles O55: inside a group by the list of its levels, between groups by the order of the groups. -/
theorem priorityOrder : Obligations.PriorityOrder := by
  intro s
  have horder := levelList_order (bitAt s.ipr 0#3) (bitAt s.ipr 2#3) (bitAt s.ipr 3#3) (bitAt s.ipr 5#3) (bitAt s.ipr 6#3)
  rw [← s.levelsInGroups_eq] at horder
  obtain ⟨⟨h01, h10⟩, h2, ⟨h34, h43⟩, h5, h67, h76⟩ := horder
  have inside : ∀ {x y : Tri} {b : Bool}, levelGroup x = levelGroup y →
      decide (s.levelsInGroups.idxOf x < s.levelsInGroups.idxOf y) = b → s.outranks x y = b :=
    fun hg hb => (s.outranks_same hg).trans hb
  have between : ∀ {x y : Tri} {k m : LevelGroup}, levelGroup x = k → levelGroup y = m → k ≠ m →
      s.outranks x y = groupAbove s.groupOrder k m := by
    rintro x y k m rfl rfl hne
    exact s.outranks_other hne
  have groupB : ∀ x ∈ [3#3, 4#3], levelGroup x = levelGroup 2#3 := by decide
  have groupC : ∀ x ∈ [6#3, 7#3], levelGroup x = levelGroup 5#3 := by decide
  refine ⟨inside rfl h01, inside rfl h10, fun x hx => ?_, inside rfl h34, inside rfl h43, fun x hx => ?_, inside rfl h67,
    inside rfl h76, fun g hg h0 h1 x y z hx hy hz => ?_⟩
  · exact ⟨inside (groupB x hx).symm (h2 x hx).1, inside (groupB x hx) (h2 x hx).2⟩
  · exact ⟨inside (groupC x hx).symm (h5 x hx).1, inside (groupC x hx) (h5 x hx).2⟩
  · obtain ⟨ga, gb, gc⟩ := levelGroup_of_mem hx hy hz
    rw [between ga gb (by decide), between gb ga (by decide), between gb gc (by decide), between gc gb (by decide),
      between ga gc (by decide), between gc ga (by decide)]
    exact s.groupAbove_groupOrder hg h0 h1

end Sys2Proof.Machine


/-! PROOFS. The waits, the inputs of the environment, the values after reset. -/

namespace Sys2Proof.Machine

/-! ## Waiting -/

/-- A boundary that waits, with no input: the step only counts. -/
theorem step_waits {s : State} (he : s.env = []) (h : s.boundary = .wait s) : step s = .next { s with tick := s.tick + 1 } := by
  rw [step, environment_nil he, h]; rfl

theorem anySource_eq_false {test : Nat → Source → Bool} {l : List Source} {n : Nat}
    (h : ∀ k src, l[k]? = some src → test (n + k) src = false) : anySource test n l = false := by
  induction l generalizing n with
  | nil => rfl
  | cons x xs ih =>
    rw [anySource, Bool.or_eq_false_iff]
    refine ⟨h 0 x rfl, ih fun k src hk => ?_⟩
    rw [Nat.add_assoc, Nat.add_comm 1]
    exact h (k + 1) src hk

theorem State.unmasked_iff {s : State} {n : Nat} {src : Source} :
    s.unmasked n src = true ↔ s.pending.getLsbD n = true ∧ bitOf (s.stored src.enable.reg) src.enable.bit = true
      ∧ bitOf s.imr src.level = true := by
  rw [State.unmasked, Bool.and_eq_true, State.requested_iff, and_assoc]; rfl

/-- No request wakes a machine in which every source that could has its level masked. -/
theorem State.wakes_eq_false {s : State}
    (h : ∀ n src, s.launch.vectorMap[n]? = some src → (src.external = true ∨ s.power ≠ .stop) → s.pending.getLsbD n = true →
      bitOf (s.stored src.enable.reg) src.enable.bit = true → bitOf s.imr src.level = false) : s.wakes = false := by
  refine anySource_eq_false fun n src hsrc => ?_
  rw [Nat.zero_add, Bool.eq_false_iff]
  intro hw
  obtain ⟨hu, hx⟩ := (Bool.and_eq_true _ _).mp hw
  obtain ⟨hlatch, henable, hmask⟩ := State.unmasked_iff.1 hu
  have hx' : src.external = true ∨ s.power ≠ .stop := by simpa using hx
  rw [h n src hsrc hx' hlatch henable] at hmask
  exact Bool.false_ne_true hmask

/-- In a power-down mode that no request ends the machine waits. -/
theorem State.powerDownBoundary_wait {s : State} (h : s.wakes = false) : s.powerDownBoundary = .wait s := by
  rw [State.powerDownBoundary, h]; rfl

/-- Settles O57: in each of the four modes the boundary waits. -/
theorem waitsHold : Obligations.WaitsHold := by
  intro s he
  refine ⟨fun hp => step_waits he ?_, fun hp h => step_waits he ?_, fun hp h => step_waits he ?_, fun hp hw hv => step_waits he ?_⟩
  · rw [State.boundary, hp]
  · rw [State.boundary, hp]
    exact State.powerDownBoundary_wait (State.wakes_eq_false fun n src hsrc _ => h n src hsrc)
  · rw [State.boundary, hp]
    refine State.powerDownBoundary_wait (State.wakes_eq_false fun n src hsrc hx hlatch => ?_)
    exact h n src hsrc hlatch (hx.resolve_right fun hne => hne hp)
  · rw [State.boundary, hp]
    simp only [State.runBoundary, hv, hw, if_true]

/-! ## Reset -/

/-- Dropping the cells of other addresses leaves the byte at an address. -/
theorem Memory.read_filter {sp : Space} (m : Memory) {p : Nat → Bool} {a : Nat} (ha : p a = true) :
    Memory.read sp (m.filter fun c => p c.1) a = Memory.read sp m a := by
  induction m with
  | nil => rfl
  | cons c m ih =>
    obtain ⟨k, w⟩ := c
    by_cases hk : p k = true
    · rw [List.filter_cons_of_pos (p := fun c : Host.Cell => p c.1) hk, Memory.read, Memory.read, ih]
    · have hne : a ≠ k := fun e => hk (e ▸ ha)
      rw [List.filter_cons_of_neg (p := fun c : Host.Cell => p c.1) hk, ih, Memory.read, if_neg hne]

/-- What a reset leaves (10_state.md R40; 70_reset_and_hazards.md R326): the values of the table, and the memories. -/
theorem State.resetFrom_afterReset (s : State) : s.ResetFrom s.afterReset where
  pc := rfl
  fis := by
    have bit1 : ∀ x : Byte, bitAt (x &&& 0xFC#8) 1#3 = false := by decide
    exact bit1 _
  ba := by
    have bit0 : ∀ x : Byte, bitAt (x &&& 0xFC#8) 0#3 = false := by decide
    exact bit0 _
  pointers := ⟨rfl, rfl⟩
  requests := ⟨rfl, State.irq_of_pending_zero rfl⟩
  enables := by
    have low : ∀ x : Byte, bitAt (x &&& 0x1C#8) 0#3 = false ∧ bitAt (x &&& 0x1C#8) 1#3 = false := by decide
    exact low _
  page := rfl
  timers := ⟨rfl, rfl, rfl, rfl, rfl⟩
  running := ⟨rfl, rfl⟩
  ram p a := by
    have := p.isLt
    have := a.isLt
    exact Memory.read_filter s.regs (p := fun k => decide (k < bankBase)) (decide_eq_true (by simp only [Loc.key, bankBase]; omega))
  common n := by
    have := n.isLt
    exact Memory.read_filter s.regs (p := fun k => decide (k < bankBase)) (decide_eq_true (by simp only [Loc.key, bankBase]; omega))
  memories := ⟨rfl, rfl, rfl⟩

/-- Settles O9: the rows of R40's table. -/
theorem resetValues : Obligations.ResetValues :=
  ⟨rfl, rfl, rfl, rfl, rfl, State.irq_of_pending_zero rfl, rfl, rfl, rfl, rfl, rfl, rfl, rfl, rfl, rfl, rfl⟩

/-! ## The inputs of the environment -/

theorem State.watchdogOn_iff {s : State} : s.watchdogOn = true ↔ s.btcon.toNat / 16 ≠ 0xA := by
  have nibble : ∀ x : Byte, (x.extractLsb' 4 4 != 0xA#4) = true ↔ x.toNat / 16 ≠ 0xA := by decide
  exact nibble s.btcon

section
variable {s : State}

/-- The basic timer of a running or idle chip (10_state.md R33). -/
theorem State.basicTimer_counting (h : s.power = .run ∨ s.power = .idle) (n : Nat) :
    s.basicTimer n = if s.watchdogOn && decide (0x100 ≤ s.btcnt.toNat + n) then s.afterReset
      else s.setBtcnt (BitVec.ofNat 8 (s.btcnt.toNat + n)) := by
  have hn : BitVec.ofNat 8 (s.btcnt.toNat + n) = s.btcnt + BitVec.ofNat 8 n := by
    rw [BitVec.ofNat_add, BitVec.ofNat_toNat, BitVec.setWidth_eq]
  rw [hn]
  rcases h with h | h <;> simp only [State.basicTimer, h]

theorem State.basicTimer_still (h : s.power = .stop ∨ s.power = .backup) (n : Nat) : s.basicTimer n = s := by
  rcases h with h | h <;> simp only [State.basicTimer, h]

theorem State.isExternal_iff {n : Nat} :
    s.isExternal n = true ↔ ∃ src, s.launch.vectorMap[n]? = some src ∧ src.external = true := by
  unfold State.isExternal
  cases s.launch.vectorMap[n]? <;> simp

/-- The event of a source that has one sets its latch (60_exceptions.md R291). -/
theorem State.raise_latches {n : Nat} (h : s.power = .run ∨ s.power = .idle ∨ s.power = .stop ∧ s.isExternal n = true) :
    s.raise n = s.setPending (s.pending ||| BitVec.twoPow 22 n) := by
  rcases h with h | h | ⟨h, hx⟩
  · simp only [State.raise, h]; rfl
  · simp only [State.raise, h]; rfl
  · simp only [State.raise, h, hx, if_true]; rfl

/-- Where a source has no event its input changes nothing. -/
theorem State.raise_ignored {n : Nat} (h : s.power = .backup ∨ s.power = .stop ∧ s.isExternal n = false) : s.raise n = s := by
  rcases h with h | ⟨h, hx⟩
  · simp only [State.raise, h]
  · simp only [State.raise, h, hx, Bool.false_eq_true, if_false]

end

/-- The G parts (60_exceptions.md R314). -/
theorem Part.lvdOffInStop_iff {p : Part} : p.lvdOffInStop = true ↔ p = .g9 ∨ p = .g7 := by cases p <;> decide

/-- Settles O58: input by input. -/
theorem watchdogReset : Obligations.WatchdogReset := by
  intro s n
  refine ⟨fun hp => ⟨fun hon hover => ?_, fun hcount => ?_⟩, fun hp => State.basicTimer_still hp n, rfl, fun ⟨hp, hpart⟩ => ?_,
    fun hne => ?_, fun hp => ?_, fun hp => ?_, fun h => ?_, fun h => ?_, fun e rest he => ?_⟩
  · have hreset : s.happen (.basicTimer n) = s.afterReset := by
      rw [State.happen, State.basicTimer_counting hp, State.watchdogOn_iff.2 hon, decide_eq_true hover]; rfl
    rw [hreset]
    exact s.resetFrom_afterReset
  · rw [State.happen, State.basicTimer_counting hp, if_neg]
    · rfl
    · rw [Bool.and_eq_true, State.watchdogOn_iff, decide_eq_true_eq]
      omega
  · exact if_pos ⟨hp, Part.lvdOffInStop_iff.2 hpart⟩
  · exact if_neg fun ⟨hp, hpart⟩ => hne ⟨hp, Part.lvdOffInStop_iff.1 hpart⟩
  · rw [State.happen, if_pos hp]
    exact s.resetFrom_afterReset
  · exact if_neg hp
  · rw [← State.isExternal_iff] at h
    exact State.raise_latches h
  · rw [← State.isExternal_iff, Bool.not_eq_true] at h
    exact State.raise_ignored h
  · rw [State.environment, he]; rfl

end Sys2Proof.Machine


/-! PROOFS. Odd register pairs and odd table addresses are refused. -/

namespace Sys2Proof.Machine

section
variable {s : State} {d n a : Byte}

/-- `Reg[a]` read, in the statements' names. -/
theorem State.readReg_src (h : s.readable (s.srcR a) = true) : s.readReg a = .ok (s.look (s.srcR a)) := State.readReg_ok h

theorem State.readRegPair_odd (h : bitOf d 0#3 = true) : s.readRegPair d = .error (.refusal .oddPair) := evenOr_odd h _ _

theorem State.readIndPair_odd (h : bitOf d 0#3 = true) : s.readIndPair d = .error (.refusal .oddPair) := evenOr_odd h _ _

theorem State.loadWord_odd (h : bitOf d 0#3 = true) (w : Word) : s.loadWord d w = .error (.refusal .oddPair) := evenOr_odd h _ _

theorem State.multiply_odd (h : bitOf d 0#3 = true) (n : Byte) : s.multiply d n = .error (.refusal .oddPair) := evenOr_odd h _ _

theorem State.divide_odd (h : bitOf d 0#3 = true) (n : Byte) : s.divide d n = .error (.refusal .oddPair) := by
  rw [State.divide, State.readRegPair_odd h, error_bind]

/-- An operation that begins by reading an odd pair is refused. -/
theorem finish_readRegPair_odd (h : bitOf d 0#3 = true) (k : Word → Res State) : finish (s.readRegPair d >>= k) = .refused .oddPair := by
  rw [State.readRegPair_odd h, error_bind, finish_refusal]

/-- An operation that begins by reading a pair through a pointer to an odd address is refused. -/
theorem finish_readIndPair_odd (hr : s.readable (s.srcR a) = true) (hp : bitOf (s.look (s.srcR a)) 0#3 = true)
    (k : Byte → Word → Res State) :
    finish (do let p ← s.readReg a; let w ← s.readIndPair p; k p w) = .refused .oddPair := by
  rw [State.readReg_src hr, ok_bind, State.readIndPair_odd hp, error_bind, finish_refusal]

/-- MULT and DIV with an odd destination, the source read (41_arithmetic.md R170, R171). -/
theorem ByteSource.mult_div_odd (f : ByteSource) (h : bitOf d 0#3 = true) (hr : ∀ l ∈ f.reads s, s.readable l = true) :
    exec (f.mult d) s = .refused .oddPair ∧ exec (f.div d) s = .refused .oddPair := by
  cases f with
  | R n =>
    have hn : s.readReg n = .ok (s.look (s.srcR n)) := State.readReg_src (hr _ (by simp [ByteSource.reads]))
    constructor
    · show finish (s.readReg n >>= s.multiply d) = _
      rw [hn, ok_bind, State.multiply_odd h, finish_refusal]
    · show finish (s.readReg n >>= s.divide d) = _
      rw [hn, ok_bind, State.divide_odd h, finish_refusal]
  | IR n =>
    have hn : s.readRegInd n = .ok (s.look (s.srcRI n)) :=
      State.readRegInd_ok (hr (s.srcR n) (by simp [ByteSource.reads])) (hr (s.srcRI n) (by simp [ByteSource.reads]))
    constructor
    · show finish (s.readRegInd n >>= s.multiply d) = _
      rw [hn, ok_bind, State.multiply_odd h, finish_refusal]
    · show finish (s.readRegInd n >>= s.divide d) = _
      rw [hn, ok_bind, State.divide_odd h, finish_refusal]
  | IM im =>
    exact ⟨congrArg finish (State.multiply_odd h im), congrArg finish (State.divide_odd h im)⟩

/-- LDW of an even pair to an odd one. -/
theorem ldw_RR_RR_odd (hd : bitOf d 0#3 = true) (hn : bitOf n 0#3 = false) (hr : ∀ l ∈ s.pairRPlaces n, s.readable l = true) :
    exec (.ldw_RR_RR d n) s = .refused .oddPair := by
  have hpair := State.readRegPair_ok hn (hr (s.srcR n) (by simp [State.pairRPlaces])) (hr (s.srcR (n + 1#8)) (by simp [State.pairRPlaces]))
  show finish (s.readRegPair n >>= s.loadWord d) = _
  rw [hpair, ok_bind, State.loadWord_odd hd, finish_refusal]

/-- LDW through a pointer to an even pair, to an odd one. -/
theorem ldw_RR_IR_odd (hd : bitOf d 0#3 = true) (hn : bitOf n 0#3 = false) (hr : s.readable (s.srcR a) = true)
    (hp : s.look (s.srcR a) = n) (hi : s.readable (s.srcI n) = true) : exec (.ldw_RR_IR d a) s = .refused .oddPair := by
  have hreg : s.readReg a = .ok n := by rw [State.readReg_src hr, hp]
  have hpair := State.readIndPair_ok hn hi (show s.readable (.ram s.srcPage (n + 1#8)) = true from hi)
  show finish (s.readReg a >>= fun p => s.readIndPair p >>= s.loadWord d) = _
  rw [hreg, ok_bind, hpair, ok_bind, State.loadWord_odd hd, finish_refusal]

end

/-- Settles O59: each meaning meets the odd address in its first operation that needs a pair. -/
theorem oddPairsStop : Obligations.OddPairsStop := by
  intro s d n a w f hd hn
  refine ⟨fun i hi => ?_, congrArg finish (evenOr_odd hd _ _), f.mult_div_odd hd, fun hr hp i hi => ?_, ldw_RR_RR_odd hd hn,
    ldw_RR_IR_odd hd hn⟩
  · simp only [List.mem_cons, List.not_mem_nil, or_false] at hi
    rcases hi with rfl | rfl | rfl | rfl | rfl | rfl
    · exact finish_readRegPair_odd hd _
    · exact finish_readRegPair_odd hd _
    · exact finish_readRegPair_odd hd _
    · exact finish_readRegPair_odd hd _
    · exact congrArg finish (State.loadWord_odd hd w)
    · exact finish_readRegPair_odd hd _
  · have hodd : bitOf (s.look (s.srcR a)) 0#3 = true := hp ▸ hd
    simp only [List.mem_cons, List.not_mem_nil, or_false] at hi
    rcases hi with rfl | rfl | rfl | rfl
    · exact finish_readIndPair_odd hr hodd _
    · exact finish_readIndPair_odd hr hodd _
    · exact finish_readIndPair_odd hr hodd _
    · exact finish_readIndPair_odd hr hodd _

end Sys2Proof.Machine


/-! PROOFS. The decoder gives back what the encoder wrote, and a step runs the instruction whose bytes stand at pc. -/

namespace Sys2Proof

/-! ## The fields of an encoded byte (30_encoding.md R83) -/

theorem hiNib_append (h l : Nibble) : hiNib (h ++ l) = h := by revert h l; decide

theorem loNib_append (h l : Nibble) : loNib (h ++ l) = l := by revert h l; decide

/-- The fields of a byte of a register number, a three-bit field and the selector 0. -/
theorem selector_clear (n : Nibble) (p : Tri) :
    hiNib (n ++ p ++ 0#1) = n ∧ midTri (n ++ p ++ 0#1) = p ∧ (n ++ p ++ 0#1 : Byte).getLsbD 0 = false := by revert n p; decide

/-- As `selector_clear`, with the selector 1. -/
theorem selector_set (n : Nibble) (p : Tri) :
    hiNib (n ++ p ++ 1#1) = n ∧ midTri (n ++ p ++ 1#1) = p ∧ (n ++ p ++ 1#1 : Byte).getLsbD 0 = true := by revert n p; decide

/-- The operand byte of SRP, SRP0 and SRP1. -/
theorem pointerFields (im : BitVec 5) (x : BitVec 1) (k : BitVec 2) :
    hiFive (im ++ x ++ k) = im ∧ bitTwo (im ++ x ++ k) = x ∧ (im ++ x ++ k : Byte).extractLsb' 0 2 = k := by revert im x k; decide

/-- A word is its two bytes. -/
theorem word_of_bytes (w : Word) : (w.extractLsb' 8 8 ++ w.extractLsb' 0 8 : Word) = w := by
  apply BitVec.eq_of_getLsbD_eq
  intro i hi
  rw [BitVec.getLsbD_append]
  by_cases h : i < 8
  · simp [h]
  · have : i - 8 < 8 := by omega
    have : 8 + (i - 8) = i := by omega
    simp [*]

theorem Cond.ofCode_code (cc : Cond) : Cond.ofCode cc.code = cc := by cases cc <;> rfl

/-! ## One lemma a form of operand bytes -/

section
variable (rest : List Byte)

/-- Two register numbers in one byte. -/
theorem decoded_nibbles (f : Nibble → Nibble → Instr) (h l : Nibble) :
    (.ok (f (hiNib (h ++ l)) (loNib (h ++ l)), rest) : DecodeResult) = .ok (f h l, rest) := by rw [hiNib_append, loNib_append]

/-- A register number and a three-bit field, the selector 0. -/
theorem decoded_clear (f : Nibble → Tri → Instr) (other : DecodeResult) (n : Nibble) (p : Tri) :
    (if (n ++ p ++ 0#1 : Byte).getLsbD 0 then other else .ok (f (hiNib (n ++ p ++ 0#1)) (midTri (n ++ p ++ 0#1)), rest))
      = .ok (f n p, rest) := by
  obtain ⟨hn, hp, hsel⟩ := selector_clear n p
  rw [hn, hp, hsel]; rfl

/-- As `decoded_clear`, the selector 1. -/
theorem decoded_set (f : Nibble → Tri → Instr) (other : DecodeResult) (n : Nibble) (p : Tri) :
    (if (n ++ p ++ 1#1 : Byte).getLsbD 0 then .ok (f (hiNib (n ++ p ++ 1#1)) (midTri (n ++ p ++ 1#1)), rest) else other)
      = .ok (f n p, rest) := by
  obtain ⟨hn, hp, hsel⟩ := selector_set n p
  rw [hn, hp, hsel]; rfl

/-- An even operand byte goes on. -/
theorem decoded_even {b : Byte} (h : evenByte b = true) (e : DecodeError) (k : DecodeResult) : ifEven b e k = k := if_pos h

/-- The word of an instruction, from its two bytes. -/
theorem decoded_word (f : Word → Instr) (w : Word) :
    (.ok (f (w.extractLsb' 8 8 ++ w.extractLsb' 0 8), rest) : DecodeResult) = .ok (f w, rest) := by rw [word_of_bytes]

/-- The forms with a word after a register number and a pair other than 0 (30_encoding.md R87), the selector 0. -/
theorem decoded_indexed_clear (f : Nibble → Tri → Word → Instr) (other direct : DecodeResult) (n : Nibble) {p : Tri}
    (hp0 : (p != 0#3) = true) (w : Word) :
    (if (n ++ p ++ 0#1 : Byte).getLsbD 0 then other
      else if midTri (n ++ p ++ 0#1) = 0#3 then direct
      else .ok (f (hiNib (n ++ p ++ 0#1)) (midTri (n ++ p ++ 0#1)) (w.extractLsb' 8 8 ++ w.extractLsb' 0 8), rest))
      = .ok (f n p w, rest) := by
  obtain ⟨hn, hp, hsel⟩ := selector_clear n p
  rw [hn, hp, hsel, word_of_bytes, if_neg Bool.false_ne_true, if_neg (bne_iff_ne.1 hp0)]

/-- As `decoded_indexed_clear`, the selector 1. -/
theorem decoded_indexed_set (f : Nibble → Tri → Word → Instr) (other direct : DecodeResult) (n : Nibble) {p : Tri}
    (hp0 : (p != 0#3) = true) (w : Word) :
    (if (n ++ p ++ 1#1 : Byte).getLsbD 0 then
        (if midTri (n ++ p ++ 1#1) = 0#3 then direct
        else .ok (f (hiNib (n ++ p ++ 1#1)) (midTri (n ++ p ++ 1#1)) (w.extractLsb' 8 8 ++ w.extractLsb' 0 8), rest))
      else other) = .ok (f n p w, rest) := by
  obtain ⟨hn, hp, hsel⟩ := selector_set n p
  rw [hn, hp, hsel, word_of_bytes, if_pos rfl, if_neg (bne_iff_ne.1 hp0)]

/-- A field of 0 in place of the pair: the word is the address. The selector 0. -/
theorem decoded_direct_clear (f : Nibble → Word → Instr) (other indexed : DecodeResult) (n : Nibble) (w : Word) :
    (if (n ++ 0#4 : Byte).getLsbD 0 then other
      else if midTri (n ++ 0#4) = 0#3 then .ok (f (hiNib (n ++ 0#4)) (w.extractLsb' 8 8 ++ w.extractLsb' 0 8), rest)
      else indexed) = .ok (f n w, rest) := by
  have zero : (n ++ 0#4 : Byte) = n ++ 0#3 ++ 0#1 := by revert n; decide
  obtain ⟨hn, hp, hsel⟩ := selector_clear n 0#3
  rw [zero, hn, hp, hsel, word_of_bytes, if_neg Bool.false_ne_true, if_pos rfl]

/-- As `decoded_direct_clear`, the selector 1. -/
theorem decoded_direct_set (f : Nibble → Word → Instr) (other indexed : DecodeResult) (n : Nibble) (w : Word) :
    (if (n ++ 1#4 : Byte).getLsbD 0 then
        (if midTri (n ++ 1#4) = 0#3 then .ok (f (hiNib (n ++ 1#4)) (w.extractLsb' 8 8 ++ w.extractLsb' 0 8), rest) else indexed)
      else other) = .ok (f n w, rest) := by
  have one : (n ++ 1#4 : Byte) = n ++ 0#3 ++ 1#1 := by revert n; decide
  obtain ⟨hn, hp, hsel⟩ := selector_set n 0#3
  rw [one, hn, hp, hsel, word_of_bytes, if_pos rfl, if_pos rfl]

/-- The operand of SRP, SRP0 and SRP1 (46_cpu_control.md R267 to R269): its two low bits say which. -/
theorem decode_pointer (im : BitVec 5) (x : BitVec 1) :
    decode (0x31#8 :: (im ++ x ++ 0#2) :: rest) = .ok (.srp_IM im x, rest)
      ∧ decode (0x31#8 :: (im ++ x ++ 1#2) :: rest) = .ok (.srp1_IM im x, rest)
      ∧ decode (0x31#8 :: (im ++ x ++ 2#2) :: rest) = .ok (.srp0_IM im x, rest) := by
  have byte : ∀ b : Byte, decode (0x31#8 :: b :: rest) = match (b.extractLsb' 0 2).toNat with
      | 0 => .ok (.srp_IM (hiFive b) (bitTwo b), rest)
      | 1 => .ok (.srp1_IM (hiFive b) (bitTwo b), rest)
      | 2 => .ok (.srp0_IM (hiFive b) (bitTwo b), rest)
      | _ => .error .illegalOpcode := fun _ => rfl
  have fields := pointerFields im x
  refine ⟨?_, ?_, ?_⟩
  · obtain ⟨h5, h1, h2⟩ := fields 0#2
    rw [byte, h5, h1, h2]; rfl
  · obtain ⟨h5, h1, h2⟩ := fields 1#2
    rw [byte, h5, h1, h2]; rfl
  · obtain ⟨h5, h1, h2⟩ := fields 2#2
    rw [byte, h5, h1, h2]; rfl

end

/-- THE DECODER UNDOES THE ENCODER (30_encoding.md R83, R86, R87), whatever bytes follow: by the form of the operand bytes. -/
theorem decode_encode (i : Instr) (rest : List Byte) (h : i.wellFormed = true) : decode (encode i ++ rest) = .ok (i, rest) := by
  cases i with
  -- no operand, or whole bytes
  | next | enter | exit | wfi | sb0 | sb1 | idle | stop | di | ei | ret | iret | rcf | scf | ccf | nop
  | add_R_R | add_R_IR | add_R_IM | adc_R_R | adc_R_IR | adc_R_IM | sub_R_R | sub_R_IR | sub_R_IM | sbc_R_R | sbc_R_IR | sbc_R_IM
  | or_R_R | or_R_IR | or_R_IM | and_R_R | and_R_IR | and_R_IM | tcm_R_R | tcm_R_IR | tcm_R_IM | tm_R_R | tm_R_IR | tm_R_IM
  | cp_R_R | cp_R_IR | cp_R_IM | xor_R_R | xor_R_IR | xor_R_IM
  | dec_R | dec_IR | rlc_R | rlc_IR | inc_R | inc_IR | da_R | da_IR | pop_R | pop_IR | com_R | com_IR | push_R | push_IR
  | rl_R | rl_IR | clr_R | clr_IR | rrc_R | rrc_IR | sra_R | sra_IR | rr_R | rr_IR | swap_R | swap_IR | decw_IR | incw_IR
  | pushud_IR_R | pushui_IR_R | popud_R_IR | popui_R_IR | ld_IR_IM | ld_R_R | ld_R_IR | ld_R_IM | ld_IR_R => rfl
  -- an even pair or table address
  | decw_RR | incw_RR | jp_IRR | call_IA | call_IRR | mult_RR_R | mult_RR_IR | mult_RR_IM | div_RR_R | div_RR_IR | div_RR_IM
  | ldw_RR_IR => exact decoded_even h _ _
  | ldw_RR_RR dst src =>
    obtain ⟨hsrc, hdst⟩ := (Bool.and_eq_true _ _).mp h
    exact (decoded_even hsrc _ _).trans (decoded_even hdst _ _)
  | ldw_RR_IML dst iml => exact (decoded_even h _ _).trans (decoded_word rest (.ldw_RR_IML dst) iml)
  | call_DA da => exact decoded_word rest .call_DA da
  -- two register numbers in a byte
  | add_r_r d n | add_r_Ir d n | adc_r_r d n | adc_r_Ir d n | sub_r_r d n | sub_r_Ir d n | sbc_r_r d n | sbc_r_Ir d n
  | or_r_r d n | or_r_Ir d n | and_r_r d n | and_r_Ir d n | tcm_r_r d n | tcm_r_Ir d n | tm_r_r d n | tm_r_Ir d n
  | cp_r_r d n | cp_r_Ir d n | xor_r_r d n | xor_r_Ir d n | ld_r_Ir d n | ld_Ir_r d n => exact decoded_nibbles rest _ d n
  | cpije_r_Ir_RA dst src ra => exact decoded_nibbles rest (fun s d => .cpije_r_Ir_RA d s ra) src dst
  | cpijne_r_Ir_RA dst src ra => exact decoded_nibbles rest (fun s d => .cpijne_r_Ir_RA d s ra) src dst
  | ld_r_X dst x idx => exact decoded_nibbles rest (fun d n => .ld_r_X d x n) dst idx
  | ld_X_r x idx src => exact decoded_nibbles rest (fun s n => .ld_X_r x n s) src idx
  -- a register number, a three-bit field and a selector
  | ldc_r_Irr d p => exact decoded_clear rest .ldc_r_Irr _ d p
  | lde_r_Irr d p => exact decoded_set rest .lde_r_Irr _ d p
  | ldc_Irr_r p n => exact decoded_clear rest (fun n p => .ldc_Irr_r p n) _ n p
  | lde_Irr_r p n => exact decoded_set rest (fun n p => .lde_Irr_r p n) _ n p
  | ldcd_r_Irr d p => exact decoded_clear rest .ldcd_r_Irr _ d p
  | lded_r_Irr d p => exact decoded_set rest .lded_r_Irr _ d p
  | ldci_r_Irr d p => exact decoded_clear rest .ldci_r_Irr _ d p
  | ldei_r_Irr d p => exact decoded_set rest .ldei_r_Irr _ d p
  | ldcpd_Irr_r p n => exact decoded_clear rest (fun n p => .ldcpd_Irr_r p n) _ n p
  | ldepd_Irr_r p n => exact decoded_set rest (fun n p => .ldepd_Irr_r p n) _ n p
  | ldcpi_Irr_r p n => exact decoded_clear rest (fun n p => .ldcpi_Irr_r p n) _ n p
  | ldepi_Irr_r p n => exact decoded_set rest (fun n p => .ldepi_Irr_r p n) _ n p
  | ldc_r_XS d p xs => exact decoded_clear rest (fun d p => .ldc_r_XS d p xs) _ d p
  | lde_r_XS d p xs => exact decoded_set rest (fun d p => .lde_r_XS d p xs) _ d p
  | ldc_XS_r p xs n => exact decoded_clear rest (fun n p => .ldc_XS_r p xs n) _ n p
  | lde_XS_r p xs n => exact decoded_set rest (fun n p => .lde_XS_r p xs n) _ n p
  | bor_r0_Rb d n b => exact decoded_clear rest (fun d b => .bor_r0_Rb d n b) _ d b
  | bor_Rb_r0 d b n => exact decoded_set rest (fun n b => .bor_Rb_r0 d b n) _ n b
  | bcp_r0_Rb d n b => exact decoded_clear rest (fun d b => .bcp_r0_Rb d n b) _ d b
  | bxor_r0_Rb d n b => exact decoded_clear rest (fun d b => .bxor_r0_Rb d n b) _ d b
  | bxor_Rb_r0 d b n => exact decoded_set rest (fun n b => .bxor_Rb_r0 d b n) _ n b
  | btjrf_RA_rb ra n b => exact decoded_clear rest (fun n b => .btjrf_RA_rb ra n b) _ n b
  | btjrt_RA_rb ra n b => exact decoded_set rest (fun n b => .btjrt_RA_rb ra n b) _ n b
  | ldb_r0_Rb d n b => exact decoded_clear rest (fun d b => .ldb_r0_Rb d n b) _ d b
  | ldb_Rb_r0 d b n => exact decoded_set rest (fun n b => .ldb_Rb_r0 d b n) _ n b
  | bitc_rb d b => exact decoded_clear rest .bitc_rb _ d b
  | band_r0_Rb d n b => exact decoded_clear rest (fun d b => .band_r0_Rb d n b) _ d b
  | band_Rb_r0 d b n => exact decoded_set rest (fun n b => .band_Rb_r0 d b n) _ n b
  | bitr_rb d b => exact decoded_clear rest .bitr_rb _ d b
  | bits_rb d b => exact decoded_set rest .bits_rb _ d b
  -- a word after a register number and a pair, or a word alone
  | ldc_r_XL d p w => exact decoded_indexed_clear rest .ldc_r_XL _ _ d h w
  | lde_r_XL d p w => exact decoded_indexed_set rest .lde_r_XL _ _ d h w
  | ldc_XL_r p w n => exact decoded_indexed_clear rest (fun n p w => .ldc_XL_r p w n) _ _ n h w
  | lde_XL_r p w n => exact decoded_indexed_set rest (fun n p w => .lde_XL_r p w n) _ _ n h w
  | ldc_r_DA d w => exact decoded_direct_clear rest .ldc_r_DA _ _ d w
  | lde_r_DA d w => exact decoded_direct_set rest .lde_r_DA _ _ d w
  | ldc_DA_r w n => exact decoded_direct_clear rest (fun n w => .ldc_DA_r w n) _ _ n w
  | lde_DA_r w n => exact decoded_direct_set rest (fun n w => .lde_DA_r w n) _ _ n w
  -- the operand byte of the register pointers
  | srp_IM im x =>
    obtain ⟨hsrp, -, -⟩ := decode_pointer rest im x
    exact hsrp
  | srp1_IM im x =>
    obtain ⟨-, hsrp1, -⟩ := decode_pointer rest im x
    exact hsrp1
  | srp0_IM im x =>
    obtain ⟨-, -, hsrp0⟩ := decode_pointer rest im x
    exact hsrp0
  -- the columns 8 to E (30_encoding.md R86): an operand in the high nibble of the first byte
  | ld_r_R | ld_R_r | djnz_r_RA | ld_r_IM | inc_r =>
    simp only [encode, List.cons_append, decode, hiNib_append, loNib_append]; rfl
  | jr_cc_RA =>
    simp only [encode, List.cons_append, decode, hiNib_append, loNib_append, Cond.ofCode_code]; rfl
  | jp_cc_DA cc da =>
    simp only [encode, List.cons_append, decode, hiNib_append, loNib_append, Cond.ofCode_code]
    exact decoded_word rest (.jp_cc_DA cc) da

end Sys2Proof


namespace Sys2Proof.Laws

/-- THE LENGTH OF AN ENCODING is the one its first byte says (30_encoding.md R81): a fixed byte, but in the columns 8 to E (R86), where
its high nibble is an operand. -/
theorem encode_length (i : Instr) : EncodeLength.Statement i := by
  cases i with
  | ld_r_R d n => exact EncodeLength.ld_r_R d n
  | ld_R_r d n => exact EncodeLength.ld_R_r d n
  | djnz_r_RA n ra => exact EncodeLength.djnz_r_RA n ra
  | jr_cc_RA cc ra => exact EncodeLength.jr_cc_RA cc ra
  | ld_r_IM d im => exact EncodeLength.ld_r_IM d im
  | jp_cc_DA cc da => exact EncodeLength.jp_cc_DA cc da
  | inc_r d => exact EncodeLength.inc_r d
  | _ => simp only [EncodeLength.Statement, encode, List.length_cons, List.length_nil, List.headD_cons]; rfl

end Sys2Proof.Laws

namespace Sys2Proof.Machine

/-- The bytes from pc on, taken as many as the encoding has, are the encoding. -/
theorem State.codeBytes_of_holdsNext {s : State} {i : Instr} (h : s.holdsNext i) :
    s.codeBytes s.pc.toNat (encode i).length = encode i := by
  obtain ⟨-, -, hbytes⟩ := h
  refine List.ext_getElem (by simp [State.codeBytes]) fun k h1 h2 => ?_
  simpa [State.codeBytes, State.codeAt] using hbytes k h2

/-- The fetch answers the instruction whose bytes stand at pc, and its length. -/
theorem State.fetch_of_holdsNext {s : State} {i : Instr} (h : s.holdsNext i) : s.fetch = .ok (i, (encode i).length) := by
  have hbytes := State.codeBytes_of_holdsNext h
  obtain ⟨hwf, htop, hcode⟩ := h
  have hlen : (encode i).length = lengthOf ((encode i).headD 0#8) := Laws.encode_length i
  cases he : encode i with
  | nil =>
    have hpos : ∀ b : Byte, lengthOf b ≠ 0 := by decide
    rw [he] at hlen
    exact absurd hlen.symm (hpos _)
  | cons b bs =>
    have hfirst : s.rom.read .program s.pc.toNat = b := by
      have := hcode 0 (by rw [he]; exact Nat.succ_pos _)
      simpa [State.codeAt, he] using this
    rw [he] at hbytes htop hlen
    rw [State.fetch_ok (n := bs.length) (by rw [hfirst]; exact hlen.symm) (by simp only [List.length_cons] at htop; omega)]
    rw [List.length_cons] at hbytes
    have hdecode : decode (s.codeBytes s.pc.toNat (bs.length + 1)) = .ok (i, []) := by
      rw [hbytes, ← he]
      simpa using decode_encode i [] hwf
    rw [hdecode, List.length_cons]

/-- A boundary that executes runs the instruction whose bytes stand at pc. -/
theorem step_executes {s : State} {i : Instr} (henv : s.env = []) (hb : s.boundary = .execute s) (h : s.holdsNext i) :
    step s = s.runsNext i := by
  rw [step, environment_nil henv, hb]
  simp only [State.fetch_of_holdsNext h]
  rfl

/-- A running machine that does not wait and has no request to serve executes. -/
theorem State.boundary_execute {s : State} (hp : s.power = .run) (hw : s.waiting = false) (hv : s.served = none) :
    s.boundary = .execute s := by
  rw [State.boundary, hp]
  simp only [State.runBoundary, hv, hw, Bool.false_eq_true, if_false]

/-- Right after a delaying instruction (60_exceptions.md R295) the boundary goes on with the next one, or is that of the machine without
the mark: the same request is taken, and the entry clears the mark. -/
theorem step_after_delay {s : State} (henv : s.env = []) (hp : s.power = .run) (hw : s.waiting = false) (hl : s.latency = true) :
    s.boundary = .execute s ∨ step s = step (s.setLatency false) := by
  cases hv : s.served with
  | none => exact .inl (State.boundary_execute hp hw hv)
  | some x =>
    obtain ⟨n, src⟩ := x
    have hv' : (s.setLatency false).served = some (n, src) := (s.served_setLatency false).trans hv
    have hp' : (s.setLatency false).power = .run := hp
    cases hd : s.drawBit .latency with
    | false =>
      left
      rw [State.boundary, hp]
      simp only [State.runBoundary, hv, hl, hw, hd]; rfl
    | true =>
      right
      have hb : s.boundary = .enter n src (s.setWaiting false) := by
        rw [State.boundary, hp]
        simp only [State.runBoundary, hv, hl, hw, hd]; rfl
      have hb' : (s.setLatency false).boundary = .enter n src ((s.setLatency false).setWaiting false) := by
        rw [State.boundary, hp']
        simp only [State.runBoundary, hv']; rfl
      rw [step, step, environment_nil henv, environment_nil (s := s.setLatency false) henv, hb, hb']
      rfl

/-- Settles O5: where the boundary executes, the fetch answers the instruction that stands at pc. -/
theorem stepRunsDecodedInstruction : Obligations.StepRunsDecodedInstruction := by
  intro s i h
  refine ⟨fun ⟨henv, hp, hw, hv⟩ => step_executes henv (State.boundary_execute hp hw hv) h, fun henv hp hw hl => ?_⟩
  rcases step_after_delay henv hp hw hl with hb | hs
  · exact .inl (step_executes henv hb h)
  · exact .inr hs

end Sys2Proof.Machine


/-! PROOFS. What the core cannot write: program memory and the launch parameters along a step, the stores to program memory, and the LDE
family where there is no external data memory. -/

namespace Sys2Proof.Machine

/-! ## Program memory and the launch, under the plain updates -/

/-- What no step may change: program memory and the launch parameters. -/
def State.program (s : State) : Memory × Launch := (s.rom, s.launch)

theorem State.program_eq_iff {s t : State} : t.program = s.program ↔ t.rom = s.rom ∧ t.launch = s.launch := Prod.mk_inj

@[simp] theorem State.program_poke (s : State) (l : Loc) (v : Byte) : (s.poke l v).program = s.program :=
  State.program_eq_iff.2 ⟨s.poke_rom l v, s.poke_launch l v⟩

@[simp] theorem State.program_updateFlags (s : State) (u : FlagUpdate) : (s.updateFlags u).program = s.program := by
  obtain ⟨b, hb⟩ := s.updateFlags_eq u
  rw [hb]; rfl

@[simp] theorem State.program_jumpIf (s : State) (c : Bool) (ra : Byte) : (s.jumpIf c ra).program = s.program := by
  cases c <;> rfl

/-! ## Operations that keep the program -/

/-- The operation leads to states with this program only. -/
abbrev KeepsProgram (p : Memory × Launch) (r : Res State) : Prop := Res.Ensures (fun t => t.program = p) r

/-- As `KeepsProgram`, for an operation that also answers a value. -/
abbrev KeepsProgramPair {α : Type} (p : Memory × Launch) (r : Res (α × State)) : Prop := Res.Ensures (fun x => x.2.program = p) r

section
variable {s : State} {p : Memory × Launch}

theorem State.keepsProgram_writeLoc (hs : s.program = p) (l : Loc) (v : Byte) : KeepsProgram p (s.writeLoc l v) := by
  intro t ht
  obtain ⟨-, rfl⟩ := State.writeLoc_eq_ok.1 ht
  exact (s.program_poke l v).trans hs

theorem State.keepsProgram_writeTwo (hs : s.program = p) (l m : Loc) (a b : Byte) : KeepsProgram p (s.writeTwo l m a b) :=
  Res.ensures_bind (State.keepsProgram_writeLoc hs l a) fun _ h1 => State.keepsProgram_writeLoc h1 m b

/-- A store to external data memory reaches no program memory (20_memory.md R54, R57). -/
theorem State.keepsProgram_dataWrite (hs : s.program = p) (a : Word) (v : Byte) : KeepsProgram p (s.dataWrite a v) := by
  intro t ht
  obtain ⟨-, rfl⟩ := State.dataWrite_eq_ok.1 ht
  exact hs

theorem State.keepsProgram_push8 (hs : s.program = p) (v : Byte) : KeepsProgram p (s.push8 v) :=
  State.keepsProgram_writeLoc (s := s.setSpl (s.spl - 1#8)) hs _ v

theorem State.keepsProgram_push16 (hs : s.program = p) (w : Word) : KeepsProgram p (s.push16 w) :=
  Res.ensures_bind (State.keepsProgram_push8 hs _) fun _ h1 => State.keepsProgram_push8 h1 _

theorem State.keepsProgram_pop8 (hs : s.program = p) : KeepsProgramPair p s.pop8 := Res.ensures_read fun _ => Res.ensures_ok hs

theorem State.keepsProgram_pop16 (hs : s.program = p) : KeepsProgramPair p s.pop16 :=
  Res.ensures_bind (State.keepsProgram_pop8 hs) fun _ h1 => Res.ensures_bind (State.keepsProgram_pop8 h1) fun _ h2 => Res.ensures_ok h2

theorem State.keepsProgram_flags (hs : s.program = p) (u : FlagUpdate) : KeepsProgram p (.ok (s.updateFlags u)) :=
  Res.ensures_ok ((s.program_updateFlags u).trans hs)

theorem State.keepsProgram_jumpIf (hs : s.program = p) (c : Bool) (ra : Byte) : KeepsProgram p (.ok (s.jumpIf c ra)) :=
  Res.ensures_ok ((s.program_jumpIf c ra).trans hs)

theorem State.keepsProgram_storeResult (hs : s.program = p) (l : Loc) (r : AluResult) : KeepsProgram p (s.storeResult l r) :=
  Res.ensures_bind (State.keepsProgram_writeLoc hs l _) fun _ h1 => State.keepsProgram_flags h1 _

theorem State.keepsProgram_storePair (hs : s.program = p) (l m : Loc) (r : PairResult) : KeepsProgram p (s.storePair l m r) :=
  Res.ensures_bind (State.keepsProgram_writeTwo hs l m _ _) fun _ h1 => State.keepsProgram_flags h1 _

/-! The instruction shapes that do more than read and then store one result. -/

theorem State.keepsProgram_multiply (hs : s.program = p) (d n : Byte) : KeepsProgram p (s.multiply d n) :=
  Res.ensures_evenOr (Res.ensures_read fun _ => State.keepsProgram_storePair hs _ _ _) _ _

theorem State.keepsProgram_divide (hs : s.program = p) (d n : Byte) : KeepsProgram p (s.divide d n) :=
  Res.ensures_read fun _ =>
    Res.ensures_ite (State.keepsProgram_storePair hs _ _ _)
      (State.keepsProgram_writeTwo ((s.program_updateFlags _).trans hs) _ _ _ _)

theorem State.keepsProgram_loadWord (hs : s.program = p) (d : Byte) (w : Word) : KeepsProgram p (s.loadWord d w) :=
  Res.ensures_evenOr (State.keepsProgram_writeTwo hs _ _ _ _) _ _

theorem State.keepsProgram_loadStep (hs : s.program = p) (x : Bool) (d : Nibble) (n : Tri) (o : Word) :
    KeepsProgram p (s.loadStep x d n o) :=
  Res.ensures_read fun _ => Res.ensures_read fun _ =>
    Res.ensures_ite (State.keepsProgram_writeTwo hs _ _ _ _)
      (Res.ensures_ite (State.keepsProgram_writeTwo hs _ _ _ _)
        (Res.ensures_bind (State.keepsProgram_writeLoc hs _ _) fun _ h1 => State.keepsProgram_writeTwo h1 _ _ _ _))

theorem State.keepsProgram_stepStoreData (hs : s.program = p) (n : Tri) (o : Word) (src : Nibble) :
    KeepsProgram p (s.stepStoreData n o src) :=
  Res.ensures_read fun _ => Res.ensures_bind (State.keepsProgram_writeTwo hs _ _ _ _) fun _ h1 =>
    Res.ensures_read fun _ => State.keepsProgram_dataWrite h1 _ _

theorem State.keepsProgram_userPop (hs : s.program = p) (d n o : Byte) : KeepsProgram p (s.userPop d n o) :=
  Res.ensures_read fun _ => Res.ensures_read fun _ =>
    Res.ensures_ite (State.keepsProgram_writeLoc hs _ _)
      (Res.ensures_bind (State.keepsProgram_writeLoc hs _ _) fun _ h1 => State.keepsProgram_writeLoc h1 _ _)

theorem State.keepsProgram_userPush (hs : s.program = p) (d n o : Byte) : KeepsProgram p (s.userPush d n o) :=
  Res.ensures_read fun _ => Res.ensures_read fun _ =>
    Res.ensures_bind (State.keepsProgram_writeLoc hs _ _) fun _ h1 => State.keepsProgram_writeLoc h1 _ _

theorem State.keepsProgram_callTo (hs : s.program = p) (w : Word) : KeepsProgram p (s.callTo w) :=
  Res.ensures_bind (State.keepsProgram_push16 hs _) fun _ h1 => Res.ensures_ok h1

theorem State.keepsProgram_threadTo (hs : s.program = p) (w : Word) : KeepsProgram p (s.threadTo w) :=
  Res.ensures_read fun _ => Res.ensures_ok hs

theorem State.keepsProgram_compareAndStep (hs : s.program = p) (want : Bool) (d n : Nibble) (ra : Byte) :
    KeepsProgram p (s.compareAndStep want d n ra) :=
  Res.ensures_read fun _ => Res.ensures_read fun _ => Res.ensures_read fun _ =>
    Res.ensures_bind (State.keepsProgram_writeLoc hs _ _) fun _ h1 => State.keepsProgram_jumpIf h1 _ _

theorem State.keepsProgram_returnFromInterrupt (hs : s.program = p) : KeepsProgram p s.returnFromInterrupt :=
  Res.ensures_ite (Res.ensures_ok hs)
    (Res.ensures_bind (State.keepsProgram_pop8 hs) fun _ h1 =>
      Res.ensures_bind (State.keepsProgram_pop16 (s := State.setFlags _ _) h1) fun _ h2 => Res.ensures_ok h2)

/-- Both entries, fast and normal (60_exceptions.md R293, R298). -/
theorem State.keepsProgram_takeInterrupt (hs : s.program = p) (n : Nat) (src : Source) : KeepsProgram p (s.takeInterrupt n src) :=
  Res.ensures_ite (Res.ensures_ok hs)
    (Res.ensures_bind (State.keepsProgram_push16 (s := s.putIe false) hs _) fun _ h1 =>
      Res.ensures_bind (State.keepsProgram_push8 h1 _) fun _ h2 =>
        Res.ensures_ite (Res.ensures_error _) (Res.ensures_read fun _ => Res.ensures_ok (by cases src.hardwareClear <;> exact h2)))

end

/-! ## Instructions -/

/-- Whatever next state the outcome has, it meets P. -/
def NextEnsures (P : State → Prop) (o : Host.Outcome State Fault Refusal) : Prop := ∀ t, o = .next t → P t

section
variable {P : State → Prop}

theorem nextEnsures_next {s : State} (h : P s) : NextEnsures P (.next s) := fun _ e => by cases e; exact h

theorem nextEnsures_refused (r : Refusal) : NextEnsures P (.refused r) := fun _ e => by cases e

theorem nextEnsures_finish {r : Res State} (h : Res.Ensures P r) : NextEnsures P (finish r) := fun t e => h t (finish_eq_next.1 e)

/-- Counting the step keeps what does not speak of the count. -/
theorem nextEnsures_ticked {o : Host.Outcome State Fault Refusal} (hP : ∀ s, P s → P s.nextTick) (h : NextEnsures P o) :
    NextEnsures P (ticked o) := by
  cases o with
  | next s => exact nextEnsures_next (hP s (h s rfl))
  | fault f => exact fun _ e => by cases e
  | refused r => exact nextEnsures_refused r

end

/-- NO INSTRUCTION CHANGES PROGRAM MEMORY OR THE LAUNCH: its meaning reads, and then writes places of the register file, flags, the stack
or external data memory; the stores that would reach program memory are refused (20_memory.md R55). -/
theorem exec_keepsProgram {s : State} {p : Memory × Launch} (hs : s.program = p) (i : Instr) :
    NextEnsures (fun t => t.program = p) (exec i s) := by
  cases i with
  -- one operand read, a result stored
  | add_R_IM | adc_R_IM | sub_R_IM | sbc_R_IM | and_R_IM | or_R_IM | xor_R_IM
  | inc_r | dec_R | inc_R | da_R | com_R | rl_R | rlc_R | rr_R | rrc_R | sra_R | swap_R | bitc_rb =>
    exact nextEnsures_finish (Res.ensures_read fun _ => State.keepsProgram_storeResult hs _ _)
  -- two values read, a result stored
  | add_r_r | adc_r_r | sub_r_r | sbc_r_r | and_r_r | or_r_r | xor_r_r
  | add_r_Ir | adc_r_Ir | sub_r_Ir | sbc_r_Ir | and_r_Ir | or_r_Ir | xor_r_Ir
  | add_R_R | adc_R_R | sub_R_R | sbc_R_R | and_R_R | or_R_R | xor_R_R
  | add_R_IR | adc_R_IR | sub_R_IR | sbc_R_IR | and_R_IR | or_R_IR | xor_R_IR
  | dec_IR | inc_IR | da_IR | com_IR | rl_IR | rlc_IR | rr_IR | rrc_IR | sra_IR | swap_IR
  | band_r0_Rb | bor_r0_Rb | bxor_r0_Rb | band_Rb_r0 | bor_Rb_r0 | bxor_Rb_r0 =>
    exact nextEnsures_finish (Res.ensures_read fun _ => Res.ensures_read fun _ => State.keepsProgram_storeResult hs _ _)
  -- flags only
  | cp_R_IM | tcm_R_IM | tm_R_IM => exact nextEnsures_finish (Res.ensures_read fun _ => State.keepsProgram_flags hs _)
  | cp_r_r | tcm_r_r | tm_r_r | cp_r_Ir | tcm_r_Ir | tm_r_Ir | cp_R_R | tcm_R_R | tm_R_R | cp_R_IR | tcm_R_IR | tm_R_IR | bcp_r0_Rb =>
    exact nextEnsures_finish (Res.ensures_read fun _ => Res.ensures_read fun _ => State.keepsProgram_flags hs _)
  -- register pairs
  | incw_RR | decw_RR => exact nextEnsures_finish (Res.ensures_read fun _ => State.keepsProgram_storePair hs _ _ _)
  | incw_IR | decw_IR =>
    exact nextEnsures_finish (Res.ensures_read fun _ => Res.ensures_read fun _ => State.keepsProgram_storePair hs _ _ _)
  | mult_RR_IM => exact nextEnsures_finish (State.keepsProgram_multiply hs _ _)
  | mult_RR_R | mult_RR_IR => exact nextEnsures_finish (Res.ensures_read fun _ => State.keepsProgram_multiply hs _ _)
  | div_RR_IM => exact nextEnsures_finish (State.keepsProgram_divide hs _ _)
  | div_RR_R | div_RR_IR => exact nextEnsures_finish (Res.ensures_read fun _ => State.keepsProgram_divide hs _ _)
  | ldw_RR_IML => exact nextEnsures_finish (State.keepsProgram_loadWord hs _ _)
  | ldw_RR_RR => exact nextEnsures_finish (Res.ensures_read fun _ => State.keepsProgram_loadWord hs _ _)
  | ldw_RR_IR => exact nextEnsures_finish (Res.ensures_read fun _ => Res.ensures_read fun _ => State.keepsProgram_loadWord hs _ _)
  -- a byte written to a place
  | clr_R | ld_r_IM | ld_R_IM => exact nextEnsures_finish (State.keepsProgram_writeLoc hs _ _)
  | bitr_rb | bits_rb | clr_IR | ld_r_R | ld_R_r | ld_r_Ir | ld_R_R | ld_R_IR | ld_IR_IM | ldc_r_DA | lde_r_DA =>
    exact nextEnsures_finish (Res.ensures_read fun _ => State.keepsProgram_writeLoc hs _ _)
  | ldb_r0_Rb | ldb_Rb_r0 | ld_Ir_r | ld_IR_R | ld_r_X | ld_X_r
  | ldc_r_Irr | ldc_r_XS | ldc_r_XL | lde_r_Irr | lde_r_XS | lde_r_XL =>
    exact nextEnsures_finish (Res.ensures_read fun _ => Res.ensures_read fun _ => State.keepsProgram_writeLoc hs _ _)
  | ldcd_r_Irr | lded_r_Irr | ldci_r_Irr | ldei_r_Irr => exact nextEnsures_finish (State.keepsProgram_loadStep hs _ _ _ _)
  -- stores to program memory, and to external data memory
  | ldc_Irr_r | ldc_XS_r | ldc_XL_r | ldc_DA_r | ldcpd_Irr_r | ldcpi_Irr_r => exact nextEnsures_refused _
  | lde_DA_r => exact nextEnsures_finish (Res.ensures_read fun _ => State.keepsProgram_dataWrite hs _ _)
  | lde_Irr_r | lde_XS_r | lde_XL_r =>
    exact nextEnsures_finish (Res.ensures_read fun _ => Res.ensures_read fun _ => State.keepsProgram_dataWrite hs _ _)
  | ldepd_Irr_r | ldepi_Irr_r => exact nextEnsures_finish (State.keepsProgram_stepStoreData hs _ _ _)
  -- the stacks
  | push_R | push_IR => exact nextEnsures_finish (Res.ensures_read fun _ => State.keepsProgram_push8 hs _)
  | pop_R => exact nextEnsures_finish (Res.ensures_bind (State.keepsProgram_pop8 hs) fun _ h1 => State.keepsProgram_writeLoc h1 _ _)
  | pop_IR =>
    exact nextEnsures_finish (Res.ensures_bind (State.keepsProgram_pop8 hs) fun _ h1 =>
      Res.ensures_read fun _ => State.keepsProgram_writeLoc h1 _ _)
  | popud_R_IR | popui_R_IR => exact nextEnsures_finish (State.keepsProgram_userPop hs _ _ _)
  | pushud_IR_R | pushui_IR_R => exact nextEnsures_finish (State.keepsProgram_userPush hs _ _ _)
  -- program control
  | btjrf_RA_rb | btjrt_RA_rb => exact nextEnsures_finish (Res.ensures_read fun _ => State.keepsProgram_jumpIf hs _ _)
  | call_DA => exact nextEnsures_finish (State.keepsProgram_callTo hs _)
  | call_IRR => exact nextEnsures_finish (Res.ensures_read fun _ => State.keepsProgram_callTo hs _)
  | call_IA => exact nextEnsures_finish (Res.ensures_evenOr (Res.ensures_read fun _ => State.keepsProgram_callTo hs _) _ _)
  | ret => exact nextEnsures_finish (Res.ensures_bind (State.keepsProgram_pop16 hs) fun _ h1 => Res.ensures_ok h1)
  | cpije_r_Ir_RA | cpijne_r_Ir_RA => exact nextEnsures_finish (State.keepsProgram_compareAndStep hs _ _ _ _)
  | djnz_r_RA =>
    exact nextEnsures_finish (Res.ensures_read fun _ =>
      Res.ensures_bind (State.keepsProgram_writeLoc hs _ _) fun _ h1 => State.keepsProgram_jumpIf h1 _ _)
  | jp_IRR => exact nextEnsures_finish (Res.ensures_read fun _ => Res.ensures_ok hs)
  | jp_cc_DA cc => exact nextEnsures_next (by cases condHolds s.flags cc <;> exact hs)
  | jr_cc_RA => exact nextEnsures_next ((s.program_jumpIf _ _).trans hs)
  | enter => exact nextEnsures_finish (Res.ensures_bind (State.keepsProgram_push16 hs _) fun _ h1 => State.keepsProgram_threadTo h1 _)
  | exit => exact nextEnsures_finish (Res.ensures_bind (State.keepsProgram_pop16 hs) fun _ h1 => State.keepsProgram_threadTo h1 _)
  | next => exact nextEnsures_finish (State.keepsProgram_threadTo hs _)
  | iret => exact nextEnsures_finish (State.keepsProgram_returnFromInterrupt hs)
  -- control registers, flags and modes
  | stop => exact nextEnsures_next (by cases s.stopHonoured <;> exact hs)
  | di | ei | srp_IM | srp0_IM | srp1_IM | ccf | rcf | scf | sb0 | sb1 | nop | idle | wfi => exact nextEnsures_next hs

/-! ## The boundary -/

theorem State.program_raise (s : State) (n : Nat) : (s.raise n).program = s.program := by
  unfold State.raise
  repeat' split
  all_goals rfl

theorem State.program_basicTimer (s : State) (n : Nat) : (s.basicTimer n).program = s.program := by
  unfold State.basicTimer
  repeat' split
  all_goals rfl

/-- No input of the environment changes the program: a reset keeps the memories (70_reset_and_hazards.md R326). -/
theorem State.program_happen (s : State) (e : EnvEvent) : (s.happen e).program = s.program := by
  cases e with
  | raise n => exact s.program_raise n
  | basicTimer n => exact s.program_basicTimer n
  | resetPinLow => rfl
  | supplyLow => simp only [State.happen, State.supplyLow]; split <;> rfl
  | resetRelease => simp only [State.happen]; split <;> rfl

/-- The inputs of a boundary, one after another. -/
theorem State.program_environment (s : State) : s.environment.program = s.program := by
  have fold : ∀ (l : List EnvEvent) (s : State), (l.foldl State.happen s).program = s.program := by
    intro l
    induction l with
    | nil => exact fun _ => rfl
    | cons e l ih => exact fun s => (ih _).trans (s.program_happen e)
  unfold State.environment
  split
  · rfl
  · exact fold _ _

/-- A boundary changes the modes only: what leads on differs in `power_mode` and in the wait of WFI. -/
theorem State.boundary_state_eq (s : State) :
    s.boundary.state = (s.setPower s.boundary.state.power).setWaiting s.boundary.state.waiting := by
  unfold State.boundary State.runBoundary State.powerDownBoundary
  repeat' split
  all_goals rfl

theorem State.program_boundary (s : State) : s.boundary.state.program = s.program := by
  rw [s.boundary_state_eq]; rfl

/-- Settles O8: the inputs and the boundary leave the program, and so do the entry and every instruction. -/
theorem stepKeepsProgram : Obligations.StepKeepsProgram := by
  intro s t h
  rw [← State.program_eq_iff]
  have hb : s.environment.boundary.state.program = s.program := (State.program_boundary _).trans s.program_environment
  have count : ∀ u : State, u.program = s.program → u.nextTick.program = s.program := fun _ hu => hu
  suffices NextEnsures (fun u => u.program = s.program) (step s) from this t h
  unfold step
  cases hcase : s.environment.boundary with
  | wait s1 =>
    rw [hcase] at hb
    exact nextEnsures_next (count s1 hb)
  | enter n src s1 =>
    rw [hcase] at hb
    exact nextEnsures_ticked count (nextEnsures_finish (State.keepsProgram_takeInterrupt (s := s1.setLatency false) hb n src))
  | execute s1 =>
    rw [hcase] at hb
    cases hf : s1.fetch with
    | error e => simp only [hf]; exact nextEnsures_finish (Res.ensures_error e)
    | ok x => simp only [hf]; exact nextEnsures_ticked count (exec_keepsProgram (s := s1.beginInstr x.2) hb x.1)

/-! ## Stores to program memory -/

/-- Settles O20: each store form's meaning is the refusal (20_memory.md R55; U8). -/
theorem programStoresStop : Obligations.ProgramStoresStop := by
  intro s f p n
  refine ⟨?_, rfl, rfl⟩
  cases f with
  | Irr | XS | XL | DA => rfl

/-! ## The LDE family without external data memory -/

/-! A word and its bytes, as the model cuts them and as the rules compute them (20_memory.md R59). -/

theorem wordOf_eq_wordFrom (hi lo : Byte) : wordOf hi lo = wordFrom hi lo := by
  have := hi.isLt
  have := lo.isLt
  apply BitVec.eq_of_toNat_eq
  rw [wordOf, wordFrom, BitVec.toNat_append, ← Nat.shiftLeft_add_eq_or_of_lt lo.isLt, Nat.shiftLeft_eq, BitVec.toNat_ofNat]
  omega

theorem hiByte_eq_upper (w : Word) : hiByte w = upper w := by
  apply BitVec.eq_of_toNat_eq
  rw [hiByte, upper, BitVec.extractLsb'_toNat, BitVec.toNat_ofNat, Nat.shiftRight_eq_div_pow]

theorem loByte_eq_lower (w : Word) : loByte w = lower w := by
  apply BitVec.eq_of_toNat_eq
  rw [loByte, lower, BitVec.extractLsb'_toNat, BitVec.toNat_ofNat, Nat.shiftRight_zero, Nat.mod_mod]

section
variable {s : State} {p : Tri}

/-- `rr[p]` read, in the statements' names. -/
theorem State.readWorkPair_src (h : ∀ l ∈ s.pairWPlaces p, s.readable l = true) : s.readWorkPair p = .ok (s.pairW p) := by
  rw [State.pairW, ← wordOf_eq_wordFrom]
  exact State.readWorkPair_ok (h _ (List.mem_cons_self ..)) (h _ (List.mem_cons_of_mem _ (List.mem_cons_self ..)))

/-- A word written to `rr[p]`, in the statements' names. -/
theorem State.writeWorkPair_ok {w : Word} (h : s.writableAll s.ie (s.toPairW p w) = true) :
    s.writeWorkPair p w = .ok (s.pokes (s.toPairW p w)) := by
  rw [State.writeWorkPair, hiByte_eq_upper, loByte_eq_lower]
  exact State.writeTwo_ok h

/-- Without external data memory there is nothing to read (20_memory.md R57). -/
theorem State.dataRead_absent (h : s.launch.hasExtDataMem = false) (a : Word) : s.dataRead a = .error (.refusal .noDataMemory) := by
  simp [State.dataRead, h]

/-- Nor anything to store to. -/
theorem State.dataWrite_absent (h : s.launch.hasExtDataMem = false) (a : Word) (v : Byte) :
    s.dataWrite a v = .error (.refusal .noDataMemory) := by simp [State.dataWrite, h]

theorem State.loadMem_absent (h : s.launch.hasExtDataMem = false) (d : Nibble) (a : Word) :
    s.loadMem true d a = .error (.refusal .noDataMemory) := by
  show s.dataRead a >>= _ = _
  rw [State.dataRead_absent h, error_bind]

theorem State.loadPair_absent (h : s.launch.hasExtDataMem = false) (hp : ∀ l ∈ s.pairWPlaces p, s.readable l = true) (d : Nibble)
    (o : Word) : s.loadPair true d p o = .error (.refusal .noDataMemory) := by
  rw [State.loadPair, State.readWorkPair_src hp, ok_bind, State.loadMem_absent h]

theorem State.loadStep_absent (h : s.launch.hasExtDataMem = false) (hp : ∀ l ∈ s.pairWPlaces p, s.readable l = true) (d : Nibble)
    (o : Word) : s.loadStep true d p o = .error (.refusal .noDataMemory) := by
  show (s.readWorkPair p >>= fun a => s.dataRead a >>= _) = _
  rw [State.readWorkPair_src hp, ok_bind, State.dataRead_absent h, error_bind]

theorem State.storeData_absent (h : s.launch.hasExtDataMem = false) (hp : ∀ l ∈ s.pairWPlaces p, s.readable l = true) {n : Nibble}
    (hn : s.readable (s.srcW n) = true) (o : Word) : s.storeData p o n = .error (.refusal .noDataMemory) := by
  rw [State.storeData, State.readWorkPair_src hp, ok_bind, State.readWork_ok hn, ok_bind, State.dataWrite_absent h]

/-- The pair is written first, then the store stops: launch and register pages are those of before. -/
theorem State.stepStoreData_absent (h : s.launch.hasExtDataMem = false) (hp : ∀ l ∈ s.pairWPlaces p, s.readable l = true) {n : Nibble}
    (hn : s.readable (s.srcW n) = true) {o : Word} (hw : s.writableAll s.ie (s.toPairW p (s.pairW p + o)) = true) :
    s.stepStoreData p o n = .error (.refusal .noDataMemory) := by
  have hl : (s.pokes (s.toPairW p (s.pairW p + o))).launch = s.launch := s.pokes_launch _
  have hread : (s.pokes (s.toPairW p (s.pairW p + o))).readable (s.workLoc s.srcPage n) = true := (State.readable_congr hl _).trans hn
  rw [State.stepStoreData, State.readWorkPair_src hp, ok_bind, State.writeWorkPair_ok hw, ok_bind, State.readLoc_ok hread, ok_bind,
    State.dataWrite_absent (hl ▸ h)]

/-- LDE to a working register, by its addressing form. -/
theorem MemForm.lde_absent (f : MemForm) (h : s.launch.hasExtDataMem = false) (hf : ∀ l ∈ f.reads s, s.readable l = true) (d : Nibble) :
    exec (f.lde d) s = .refused .noDataMemory := by
  cases f with
  | Irr | XS | XL => exact congrArg finish (State.loadPair_absent h hf d _)
  | DA da => exact congrArg finish (State.loadMem_absent h d da)

/-- LDE from a working register, by its addressing form. -/
theorem MemForm.ldeStore_absent (f : MemForm) (h : s.launch.hasExtDataMem = false) (hf : ∀ l ∈ f.reads s, s.readable l = true)
    {n : Nibble} (hn : s.readable (s.srcW n) = true) : exec (f.ldeStore n) s = .refused .noDataMemory := by
  cases f with
  | Irr | XS | XL => exact congrArg finish (State.storeData_absent h hf hn _)
  | DA da =>
    show finish (s.readWork n >>= s.dataWrite da) = _
    rw [State.readWork_ok hn, ok_bind, State.dataWrite_absent h, finish_refusal]

end

/-- Settles O21: each meaning reaches the data memory after its registers have been accessed, and stops there. -/
theorem externalMemoryAbsentStops : Obligations.ExternalMemoryAbsentStops := by
  intro s f d n p h hready
  obtain ⟨hreads, hdown⟩ := State.ready_iff.1 hready
  have hf : ∀ l ∈ f.reads s, s.readable l = true := fun l hl => hreads l (by simp [hl])
  have hp : ∀ l ∈ s.pairWPlaces p, s.readable l = true := fun l hl => hreads l (by simp [hl])
  have hn : s.readable (s.srcW n) = true := hreads _ (by simp)
  have minus_one : s.pairW p - 1#16 = s.pairW p + 0xFFFF#16 := BitVec.sub_eq_add_neg ..
  rw [minus_one] at hdown
  exact ⟨f.lde_absent h hf d, congrArg finish (State.loadStep_absent h hp d _), congrArg finish (State.loadStep_absent h hp d _),
    f.ldeStore_absent h hf hn, fun hup => ⟨congrArg finish (State.stepStoreData_absent h hp hn hdown),
      congrArg finish (State.stepStoreData_absent h hp hn hup)⟩⟩

end Sys2Proof.Machine


/-! PROOFS. The encoding: whatever the decoder reads is the encoding of a well-formed instruction and the bytes after it, the reserved
encodings are rejected, and the conditions hold as their table says. -/

namespace Sys2Proof

/-- Settles O1: the decoder undoes the encoder. -/
theorem decodeOfEncode : Obligations.DecodeOfEncode := decode_encode

/-! ## The fields of a byte put together again (30_encoding.md R83) -/

theorem hiNib_append_loNib (b : Byte) : hiNib b ++ loNib b = b := by revert b; decide

theorem append_of_selector_clear {b : Byte} (h : ¬b.getLsbD 0 = true) : hiNib b ++ midTri b ++ 0#1 = b := by revert b; decide

theorem append_of_selector_set {b : Byte} (h : b.getLsbD 0 = true) : hiNib b ++ midTri b ++ 1#1 = b := by revert b; decide

theorem append_pointerFields (b : Byte) : hiFive b ++ bitTwo b ++ b.extractLsb' 0 2 = b := by revert b; decide

theorem Cond.code_ofCode (c : Nibble) : (Cond.ofCode c).code = c := by revert c; decide

/-! ## What a decoder answers for the bytes it was given -/

/-- Every instruction the result holds is well formed, and the bytes are its encoding and the bytes left. -/
def Reads (bytes : List Byte) (r : DecodeResult) : Prop :=
  ∀ i rest, r = .ok (i, rest) → i.wellFormed = true ∧ bytes = encode i ++ rest

namespace Reads

theorem error (bytes : List Byte) (e : DecodeError) : Reads bytes (.error e) := nofun

theorem ok {bytes rest : List Byte} {i : Instr} (hwf : i.wellFormed = true) (h : bytes = encode i ++ rest) :
    Reads bytes (.ok (i, rest)) := by
  rintro _ _ ⟨⟩
  exact ⟨hwf, h⟩

/-- An instruction read whole, its encoding given. -/
theorem encoded {bytes rest : List Byte} {i : Instr} (h : i.wellFormed = true ∧ encode i = bytes) :
    Reads (bytes ++ rest) (.ok (i, rest)) := ok h.1 (by rw [h.2])

section
variable {b0 : Byte} {t : List Byte}

theorem of_need1 {k : Byte → List Byte → DecodeResult} (h : ∀ b u, Reads (b0 :: b :: u) (k b u)) : Reads (b0 :: t) (need1 t k) := by
  cases t with
  | nil => exact error _ _
  | cons b u => exact h b u

theorem of_need2 {k : Byte → Byte → List Byte → DecodeResult} (h : ∀ b c u, Reads (b0 :: b :: c :: u) (k b c u)) :
    Reads (b0 :: t) (need2 t k) := by
  match t with
  | [] | [_] => exact error _ _
  | b :: c :: u => exact h b c u

theorem of_need3 {k : Byte → Byte → Byte → List Byte → DecodeResult} (h : ∀ b c d u, Reads (b0 :: b :: c :: d :: u) (k b c d u)) :
    Reads (b0 :: t) (need3 t k) := by
  match t with
  | [] | [_] | [_, _] => exact error _ _
  | b :: c :: d :: u => exact h b c d u

theorem of_ite {bytes : List Byte} {c : Prop} [Decidable c] {x y : DecodeResult} (hx : c → Reads bytes x) (hy : ¬c → Reads bytes y) :
    Reads bytes (if c then x else y) := by
  split
  · exact hx ‹_›
  · exact hy ‹_›

theorem of_ifEven {bytes : List Byte} {b : Byte} {e : DecodeError} {k : DecodeResult} (h : evenByte b = true → Reads bytes k) :
    Reads bytes (ifEven b e k) := of_ite h fun _ => error _ e

/-! ### One lemma a form of operand bytes -/

/-- One byte. -/
theorem operand {f : Byte → Instr} (h : ∀ b, (f b).wellFormed = true ∧ encode (f b) = [b0, b]) :
    Reads (b0 :: t) (need1 t fun b u => .ok (f b, u)) := of_need1 fun b _ => encoded (h b)

/-- Two bytes. -/
theorem operands {f : Byte → Byte → Instr} (h : ∀ b c, (f b c).wellFormed = true ∧ encode (f b c) = [b0, b, c]) :
    Reads (b0 :: t) (need2 t fun b c u => .ok (f b c, u)) := of_need2 fun b c _ => encoded (h b c)

/-- One byte, even. -/
theorem evenOperand {e : DecodeError} {f : Byte → Instr} (h : ∀ b, (f b).wellFormed = evenByte b ∧ encode (f b) = [b0, b]) :
    Reads (b0 :: t) (need1 t fun b u => ifEven b e (.ok (f b, u))) :=
  of_need1 fun b _ => of_ifEven fun heven => encoded ⟨(h b).1.trans heven, (h b).2⟩

/-- Two bytes, the second one even. -/
theorem evenSecondOperand {e : DecodeError} {f : Byte → Byte → Instr}
    (h : ∀ b c, (f b c).wellFormed = evenByte c ∧ encode (f b c) = [b0, b, c]) :
    Reads (b0 :: t) (need2 t fun b c u => ifEven c e (.ok (f b c, u))) :=
  of_need2 fun b c _ => of_ifEven fun heven => encoded ⟨(h b c).1.trans heven, (h b c).2⟩

/-- A word, high byte first. -/
theorem word {f : Byte → Byte → Instr}
    (h : ∀ b c, (f b c).wellFormed = true ∧ encode (f b c) = [b0, (b ++ c).extractLsb' 8 8, (b ++ c).extractLsb' 0 8]) :
    Reads (b0 :: t) (need2 t fun b c u => .ok (f b c, u)) :=
  operands fun b c => by simpa only [BitVec.extractLsb'_append_eq_left, BitVec.extractLsb'_append_eq_right] using h b c

/-- Two register numbers in a byte. -/
theorem nibbles {f : Byte → Instr} (h : ∀ b, (f b).wellFormed = true ∧ encode (f b) = [b0, hiNib b ++ loNib b]) :
    Reads (b0 :: t) (need1 t fun b u => .ok (f b, u)) :=
  operand fun b => by simpa only [hiNib_append_loNib] using h b

/-- Two register numbers in a byte, and a byte. -/
theorem nibblesByte {f : Byte → Byte → Instr}
    (h : ∀ b c, (f b c).wellFormed = true ∧ encode (f b c) = [b0, hiNib b ++ loNib b, c]) :
    Reads (b0 :: t) (need2 t fun b c u => .ok (f b c, u)) :=
  operands fun b c => by simpa only [hiNib_append_loNib] using h b c

/-- A register number, a three-bit field and the selector 0, then the bytes `tail`. -/
theorem selectorClear (tail : List Byte) {b : Byte} {rest : List Byte} {i : Instr} (hb : ¬b.getLsbD 0 = true)
    (h : i.wellFormed = true ∧ encode i = b0 :: (hiNib b ++ midTri b ++ 0#1) :: tail) :
    Reads (b0 :: b :: (tail ++ rest)) (.ok (i, rest)) :=
  encoded (bytes := b0 :: b :: tail) (by rwa [append_of_selector_clear hb] at h)

/-- As `selectorClear`, the selector 1. -/
theorem selectorSet (tail : List Byte) {b : Byte} {rest : List Byte} {i : Instr} (hb : b.getLsbD 0 = true)
    (h : i.wellFormed = true ∧ encode i = b0 :: (hiNib b ++ midTri b ++ 1#1) :: tail) :
    Reads (b0 :: b :: (tail ++ rest)) (.ok (i, rest)) :=
  encoded (bytes := b0 :: b :: tail) (by rwa [append_of_selector_set hb] at h)

/-- A register number, a three-bit field and a selector, which says which of two instructions it is. -/
theorem selector {f g : Byte → Instr} (hf : ∀ b, (f b).wellFormed = true ∧ encode (f b) = [b0, hiNib b ++ midTri b ++ 1#1])
    (hg : ∀ b, (g b).wellFormed = true ∧ encode (g b) = [b0, hiNib b ++ midTri b ++ 0#1]) :
    Reads (b0 :: t) (need1 t fun b u => if b.getLsbD 0 then .ok (f b, u) else .ok (g b, u)) :=
  of_need1 fun b _ => of_ite (selectorSet [] · (hf b)) (selectorClear [] · (hg b))

/-- As `selector`, and a byte. -/
theorem selectorByte {f g : Byte → Byte → Instr}
    (hf : ∀ b c, (f b c).wellFormed = true ∧ encode (f b c) = [b0, hiNib b ++ midTri b ++ 1#1, c])
    (hg : ∀ b c, (g b c).wellFormed = true ∧ encode (g b c) = [b0, hiNib b ++ midTri b ++ 0#1, c]) :
    Reads (b0 :: t) (need2 t fun b c u => if b.getLsbD 0 then .ok (f b c, u) else .ok (g b c, u)) :=
  of_need2 fun b c _ => of_ite (selectorSet [c] · (hf b c)) (selectorClear [c] · (hg b c))

/-- A word after a byte with the selector `k`: with a pair number other than 0 the word is an index, with 0 an address
(30_encoding.md R87). -/
theorem indexedOrDirect {b c d : Byte} {u : List Byte} {k : BitVec 1} {direct indexed : Instr} (hb : hiNib b ++ midTri b ++ k = b)
    (hdirect : direct.wellFormed = true
      ∧ encode direct = [b0, hiNib b ++ (0#3 ++ k), (d ++ c).extractLsb' 0 8, (d ++ c).extractLsb' 8 8])
    (hindexed : indexed.wellFormed = (midTri b != 0#3)
      ∧ encode indexed = [b0, hiNib b ++ midTri b ++ k, (d ++ c).extractLsb' 0 8, (d ++ c).extractLsb' 8 8]) :
    Reads (b0 :: b :: c :: d :: u) (if midTri b = 0#3 then .ok (direct, u) else .ok (indexed, u)) := by
  rw [BitVec.extractLsb'_append_eq_left, BitVec.extractLsb'_append_eq_right] at hdirect hindexed
  refine of_ite (fun hp => encoded (bytes := [b0, b, c, d]) ?_) fun hp => encoded (bytes := [b0, b, c, d]) ?_
  · have zero : hiNib b ++ (0#3 ++ k) = b := by rw [← hp]; exact (BitVec.append_assoc ..).symm.trans hb
    rwa [zero] at hdirect
  · obtain ⟨hwf, hbytes⟩ := hindexed
    rw [hb] at hbytes
    exact ⟨hwf.trans (bne_iff_ne.2 hp), hbytes⟩

/-- The operand byte of SRP, SRP0 and SRP1: its two low bits say which, and 11B is none of them (30_encoding.md R87, R88). -/
theorem pointerOperand : Reads (0x31#8 :: t) (decodeCol1 0x3 t) := by
  refine of_need1 fun b u => ?_
  have whole : ∀ k, (b.extractLsb' 0 2).toNat = k → hiFive b ++ bitTwo b ++ BitVec.ofNat 2 k = b := by
    rintro _ rfl
    rw [BitVec.ofNat_toNat, BitVec.setWidth_eq]
    exact append_pointerFields b
  split
  · exact encoded (bytes := [0x31#8, b]) ⟨rfl, congrArg ([0x31#8, ·]) (whole 0 ‹_›)⟩
  · exact encoded (bytes := [0x31#8, b]) ⟨rfl, congrArg ([0x31#8, ·]) (whole 1 ‹_›)⟩
  · exact encoded (bytes := [0x31#8, b]) ⟨rfl, congrArg ([0x31#8, ·]) (whole 2 ‹_›)⟩
  · exact error _ _

end

end Reads

/-! ## The columns of the opcode map (30_encoding.md R86): the first byte is the row `hi` and the column -/

theorem decodeCol0_reads (hi : Nat) (t : List Byte) : Reads ((BitVec.ofNat 4 hi ++ 0x0#4) :: t) (decodeCol0 hi t) := by
  match hi with
  | 0x0 | 0x1 | 0x2 | 0x4 | 0x5 | 0x6 | 0x7 | 0x9 | 0xB | 0xC | 0xD | 0xE | 0xF => exact .operand fun _ => ⟨rfl, rfl⟩
  | 0x3 | 0x8 | 0xA => exact .evenOperand fun _ => ⟨rfl, rfl⟩
  | _ + 16 => exact .error _ _

theorem decodeCol1_reads (hi : Nat) (t : List Byte) : Reads ((BitVec.ofNat 4 hi ++ 0x1#4) :: t) (decodeCol1 hi t) := by
  match hi with
  | 0x3 => exact .pointerOperand
  | 0x0 | 0x1 | 0x2 | 0x4 | 0x5 | 0x6 | 0x7 | 0x8 | 0x9 | 0xA | 0xB | 0xC | 0xD | 0xE | 0xF => exact .operand fun _ => ⟨rfl, rfl⟩
  | _ + 16 => exact .error _ _

theorem decodeCol2_reads (hi : Nat) (t : List Byte) : Reads ((BitVec.ofNat 4 hi ++ 0x2#4) :: t) (decodeCol2 hi t) := by
  match hi with
  | 0x0 | 0x1 | 0x2 | 0x3 | 0x4 | 0x5 | 0x6 | 0x7 | 0xA | 0xB => exact .nibbles fun _ => ⟨rfl, rfl⟩
  | 0x8 | 0x9 => exact .operands fun _ _ => ⟨rfl, rfl⟩
  | 0xC | 0xD => exact .nibblesByte fun _ _ => ⟨rfl, rfl⟩
  | 0xE | 0xF => exact .selector (fun _ => ⟨rfl, rfl⟩) fun _ => ⟨rfl, rfl⟩
  | _ + 16 => exact .error _ _

theorem decodeCol3_reads (hi : Nat) (t : List Byte) : Reads ((BitVec.ofNat 4 hi ++ 0x3#4) :: t) (decodeCol3 hi t) := by
  match hi with
  | 0x0 | 0x1 | 0x2 | 0x3 | 0x4 | 0x5 | 0x6 | 0x7 | 0xA | 0xB => exact .nibbles fun _ => ⟨rfl, rfl⟩
  | 0x8 | 0x9 => exact .operands fun _ _ => ⟨rfl, rfl⟩
  | 0xC | 0xD | 0xE | 0xF => exact .selector (fun _ => ⟨rfl, rfl⟩) fun _ => ⟨rfl, rfl⟩
  | _ + 16 => exact .error _ _

open Reads in
theorem decodeCol4_reads (hi : Nat) (t : List Byte) : Reads ((BitVec.ofNat 4 hi ++ 0x4#4) :: t) (decodeCol4 hi t) := by
  match hi with
  | 0x0 | 0x1 | 0x2 | 0x3 | 0x4 | 0x5 | 0x6 | 0x7 | 0xA | 0xB | 0xE => exact .operands fun _ _ => ⟨rfl, rfl⟩
  | 0x8 | 0x9 => exact .evenSecondOperand fun _ _ => ⟨rfl, rfl⟩
  | 0xC =>
    exact of_need2 fun b c _ => of_ifEven fun hsrc => of_ifEven fun hdst =>
      encoded (bytes := [0xC4#8, b, c]) ⟨(Bool.and_eq_true _ _).mpr ⟨hsrc, hdst⟩, rfl⟩
  | 0xD | 0xF => exact .evenOperand fun _ => ⟨rfl, rfl⟩
  | _ + 16 => exact .error _ _

/-- D5H is no instruction (30_encoding.md R88). -/
theorem decodeCol5_reads (hi : Nat) (t : List Byte) : Reads ((BitVec.ofNat 4 hi ++ 0x5#4) :: t) (decodeCol5 hi t) := by
  match hi with
  | 0x0 | 0x1 | 0x2 | 0x3 | 0x4 | 0x5 | 0x6 | 0x7 | 0xA | 0xB | 0xE | 0xF => exact .operands fun _ _ => ⟨rfl, rfl⟩
  | 0x8 | 0x9 | 0xC => exact .evenSecondOperand fun _ _ => ⟨rfl, rfl⟩
  | 0xD | _ + 16 => exact .error _ _

open Reads in
theorem decodeCol6_reads (hi : Nat) (t : List Byte) : Reads ((BitVec.ofNat 4 hi ++ 0x6#4) :: t) (decodeCol6 hi t) := by
  match hi with
  | 0x0 | 0x1 | 0x2 | 0x3 | 0x4 | 0x5 | 0x6 | 0x7 | 0xA | 0xB | 0xD | 0xE => exact .operands fun _ _ => ⟨rfl, rfl⟩
  | 0x8 | 0x9 => exact .evenSecondOperand fun _ _ => ⟨rfl, rfl⟩
  | 0xC =>
    refine of_need3 fun b c d _ => of_ifEven fun heven => encoded (bytes := [0xC6#8, b, c, d]) ⟨heven, ?_⟩
    simp only [encode, BitVec.extractLsb'_append_eq_left, BitVec.extractLsb'_append_eq_right]
  | 0xF => exact .word fun _ _ => ⟨rfl, rfl⟩
  | _ + 16 => exact .error _ _

open Reads in
theorem decodeCol7_reads (hi : Nat) (t : List Byte) : Reads ((BitVec.ofNat 4 hi ++ 0x7#4) :: t) (decodeCol7 hi t) := by
  match hi with
  | 0x0 | 0x2 | 0x3 | 0x4 | 0x6 | 0xE | 0xF => exact .selectorByte (fun _ _ => ⟨rfl, rfl⟩) fun _ _ => ⟨rfl, rfl⟩
  | 0x1 => exact of_need2 fun _ c _ => of_ite (fun _ => error _ _) (selectorClear [c] · ⟨rfl, rfl⟩)
  | 0x5 => exact of_need1 fun _ _ => of_ite (fun _ => error _ _) (selectorClear [] · ⟨rfl, rfl⟩)
  | 0x7 => exact .selector (fun _ => ⟨rfl, rfl⟩) fun _ => ⟨rfl, rfl⟩
  | 0x8 | 0x9 => exact .nibblesByte fun _ _ => ⟨rfl, rfl⟩
  | 0xA | 0xB =>
    exact of_need3 fun b c d _ => of_ite
      (fun hb => indexedOrDirect (append_of_selector_set hb) ⟨rfl, rfl⟩ ⟨rfl, rfl⟩)
      fun hb => indexedOrDirect (append_of_selector_clear hb) ⟨rfl, rfl⟩ ⟨rfl, rfl⟩
  | 0xC | 0xD => exact .nibbles fun _ => ⟨rfl, rfl⟩
  | _ + 16 => exact .error _ _

theorem decodeColF_reads (hi : Nat) (t : List Byte) : Reads ((BitVec.ofNat 4 hi ++ 0xF#4) :: t) (decodeColF hi t) := by
  match hi with
  | 0x0 | 0x1 | 0x2 | 0x3 | 0x4 | 0x5 | 0x6 | 0x7 | 0x8 | 0x9 | 0xA | 0xB | 0xC | 0xD | 0xE | 0xF => exact .ok rfl rfl
  | _ + 16 => exact .error _ _

/-- The columns are stated for a row number; the high nibble of a first byte is one. -/
theorem Reads.of_row {h l : Nibble} {t : List Byte} {r : DecodeResult} (hr : Reads ((BitVec.ofNat 4 h.toNat ++ l) :: t) r) :
    Reads ((h ++ l) :: t) r := by rwa [BitVec.ofNat_toNat, BitVec.setWidth_eq] at hr

/-- The first byte in its two halves, as `decode` takes it apart: the columns 8 to E hold an operand in its high nibble. -/
theorem decode_append_reads (h : Nibble) (l : Nat) (hl : l < 16) (t : List Byte) :
    Reads ((h ++ BitVec.ofNat 4 l) :: t) (decode ((h ++ BitVec.ofNat 4 l) :: t)) := by
  rw [decode, hiNib_append, loNib_append, BitVec.toNat_ofNat, Nat.mod_eq_of_lt hl]
  match l with
  | 0x0 => exact .of_row (decodeCol0_reads h.toNat t)
  | 0x1 => exact .of_row (decodeCol1_reads h.toNat t)
  | 0x2 => exact .of_row (decodeCol2_reads h.toNat t)
  | 0x3 => exact .of_row (decodeCol3_reads h.toNat t)
  | 0x4 => exact .of_row (decodeCol4_reads h.toNat t)
  | 0x5 => exact .of_row (decodeCol5_reads h.toNat t)
  | 0x6 => exact .of_row (decodeCol6_reads h.toNat t)
  | 0x7 => exact .of_row (decodeCol7_reads h.toNat t)
  | 0x8 | 0x9 | 0xA | 0xC => exact .operand fun _ => ⟨rfl, rfl⟩
  | 0xB => exact .operand fun b => ⟨rfl, by rw [encode, Cond.code_ofCode]⟩
  | 0xD => exact .word fun b c => ⟨rfl, by rw [encode, Cond.code_ofCode]⟩
  | 0xE => exact .ok rfl rfl
  | 0xF => exact .of_row (decodeColF_reads h.toNat t)
  | _ + 16 => omega

/-- THE DECODER READS ENCODINGS (30_encoding.md R83, R86 to R88), whatever the bytes: by the column of the first byte. -/
theorem decode_reads (bytes : List Byte) : Reads bytes (decode bytes) := by
  cases bytes with
  | nil => exact .error _ _
  | cons b t =>
    have halves : hiNib b ++ BitVec.ofNat 4 (loNib b).toNat = b := by
      rw [BitVec.ofNat_toNat, BitVec.setWidth_eq, hiNib_append_loNib]
    simpa only [halves] using decode_append_reads (hiNib b) (loNib b).toNat (loNib b).isLt t

/-- Settles O2: the decoder reads encodings. -/
theorem encodeOfDecode : Obligations.EncodeOfDecode := decode_reads

/-! ## Words and reserved encodings -/

/-- Settles O3, by running the decoder. -/
theorem wordsDecode : Obligations.WordsDecode := ⟨rfl, rfl, rfl, rfl, rfl, rfl, rfl, rfl⟩

/-- A byte with bit 0 set is odd. -/
theorem evenByte_of_odd {b : Byte} (h : Machine.bitOf b 0#3 = true) : evenByte b = false := congrArg (!·) h

/-- An odd operand byte is rejected by name. -/
theorem ifEven_odd {b : Byte} (h : Machine.bitOf b 0#3 = true) (e : DecodeError) (k : DecodeResult) : ifEven b e k = .error e :=
  if_neg (by rw [evenByte_of_odd h]; exact Bool.false_ne_true)

/-- 31H with low bits 11B (30_encoding.md R88). -/
theorem decode_pointer_reserved {b : Byte} (h : b &&& 3#8 = 3#8) (rest : List Byte) :
    decode (0x31#8 :: b :: rest) = .error .illegalOpcode := by
  have low : b.extractLsb' 0 2 = 3#2 := by revert b; decide
  show decodeCol1 0x3 (b :: rest) = _
  simp [decodeCol1, need1, low]

/-- Settles O4: D5H has no arm, 31H, 17H and 57H reject their selector, the others an odd byte. -/
theorem reservedEncodingsRejected : Obligations.ReservedEncodingsRejected := by
  intro b c x rest
  refine ⟨rfl, (decode_pointer_reserved · rest), fun hodd => ?_⟩
  have odd := ifEven_odd hodd
  have oddDst : ∀ k, ifEven c .oddPair (ifEven b .oddPair k) = .error .oddPair := fun k => by rw [odd, ifEven, ite_self]
  refine ⟨if_pos hodd, if_pos hodd, odd _ _, ?_, ?_, odd _ _, odd _ _⟩
  · simp only [List.forall_mem_cons]
    exact ⟨odd _ _, odd _ _, odd _ _, odd _ _, nofun⟩
  · simp only [List.forall_mem_cons]
    exact ⟨odd _ _, odd _ _, odd _ _, odd _ _, odd _ _, odd _ _, oddDst _, odd _ _, nofun⟩

/-! ## Conditions (30_encoding.md R84) -/

/-- Settles O14: row by row, UGT by De Morgan. -/
theorem conditionCodes : Obligations.ConditionCodes := by
  intro flags k h
  match k with
  | 0x0 | 0x1 | 0x2 | 0x3 | 0x4 | 0x5 | 0x6 | 0x7 | 0x8 | 0x9 | 0xA | 0xC | 0xD | 0xE | 0xF => exact ⟨rfl, rfl, rfl⟩
  | 0xB => exact ⟨rfl, rfl, (Bool.not_or _ _).symm⟩
  | k + 16 => exact absurd h (Nat.not_lt.2 (Nat.le_add_left 16 k))

end Sys2Proof


/-! PROOFS. The loads. A meaning is a chain of reads and then of writes: `Gives` says what an operation that reads answers, `Makes` what
one that goes on to write leaves, each with the places it needs; both follow the chain, one link a rule. -/

namespace Sys2Proof.Machine

/-- Where these places can be read, the operation answers this value. -/
def State.Gives {α : Type} (s : State) (places : List Loc) (r : Res α) (v : α) : Prop :=
  (∀ l ∈ places, s.readable l = true) → r = .ok v

/-- Where these places can be read and these writes made, the operation answers the state after the writes. -/
def State.Makes (s : State) (places : List Loc) (ws : List Write) (r : Res State) : Prop :=
  (∀ l ∈ places, s.readable l = true) → s.writableAll s.ie ws = true → r = .ok (s.pokes ws)

/-! ## Chains -/

section
variable {s : State} {α β : Type} {ps qs : List Loc} {ws : List Write}

theorem State.gives_ok (v : α) : s.Gives [] (.ok v) v := fun _ => rfl

/-- A read and what is read after it. -/
theorem State.Gives.bind {x : Res α} {a : α} {f : α → Res β} {b : β} (hx : s.Gives ps x a) (hf : s.Gives qs (f a) b) :
    s.Gives (ps ++ qs) (x >>= f) b := by
  intro h
  obtain ⟨hps, hqs⟩ := List.forall_mem_append.1 h
  rw [hx hps, ok_bind, hf hqs]

/-- A read and what is done with its value. -/
theorem State.Gives.makes {x : Res α} {a : α} {f : α → Res State} (hx : s.Gives ps x a) (hf : s.Makes qs ws (f a)) :
    s.Makes (ps ++ qs) ws (x >>= f) := by
  intro h hw
  obtain ⟨hps, hqs⟩ := List.forall_mem_append.1 h
  rw [hx hps, ok_bind, hf hqs hw]

theorem State.makes_writeLoc (l : Loc) (v : Byte) : s.Makes [] [(l, v)] (s.writeLoc l v) :=
  fun _ hw => (State.writeLoc_of_writableAll hw).1

/-- A write and what is done in the state after it: what can be read is as before. -/
theorem State.makes_writeLoc_bind {l : Loc} {v : Byte} {f : State → Res State} (hf : (s.poke l v).Makes ps ws (f (s.poke l v))) :
    s.Makes ps ((l, v) :: ws) (s.writeLoc l v >>= f) := by
  intro hr hw
  obtain ⟨hfirst, hrest⟩ := State.writeLoc_of_writableAll hw
  have hr' : ∀ m ∈ ps, (s.poke l v).readable m = true := fun m hm =>
    (State.readable_congr (s.poke_launch l v) m).trans (hr m hm)
  rw [hfirst, ok_bind, hf hr' hrest]
  rfl

theorem State.makes_writeTwo (l m : Loc) (a b : Byte) : s.Makes [] [(l, a), (m, b)] (s.writeTwo l m a b) :=
  State.makes_writeLoc_bind (State.makes_writeLoc m b)

/-- An instruction whose meaning reads places and then writes places: its access, with no flag and pc as it is. -/
theorem State.Makes.completes {i : Instr} {r : Res State} (hr : s.Makes ps ws r) (hi : exec i s = finish r) :
    s.Completes i { reads := ps, writes := ws, pc := s.pc } := by
  refine State.completes_of_pokes rfl fun hready => ?_
  obtain ⟨hread, hwrite⟩ := State.ready_iff.1 hready
  rw [hi, hr hread hwrite, finish_ok, State.updateFlags_none, State.setPc_same (State.pokes_pc s ws)]

end

/-! ## Operands -/

section
variable (s : State)

theorem State.gives_readWork (n : Nibble) : s.Gives [s.srcW n] (s.readWork n) (s.look (s.srcW n)) :=
  fun h => State.readWork_ok (h _ (List.mem_singleton_self _))

theorem State.gives_readReg (a : Byte) : s.Gives [s.srcR a] (s.readReg a) (s.look (s.srcR a)) :=
  fun h => State.readReg_src (h _ (List.mem_singleton_self _))

theorem State.gives_readInd (a : Byte) : s.Gives [s.srcI a] (s.readInd a) (s.look (s.srcI a)) :=
  fun h => State.readInd_ok (h _ (List.mem_singleton_self _))

theorem State.gives_readWorkInd (n : Nibble) : s.Gives [s.srcW n, s.srcWI n] (s.readWorkInd n) (s.look (s.srcWI n)) :=
  (s.gives_readWork n).bind (s.gives_readInd _)

theorem State.gives_readRegInd (a : Byte) : s.Gives [s.srcR a, s.srcRI a] (s.readRegInd a) (s.look (s.srcRI a)) :=
  (s.gives_readReg a).bind (s.gives_readInd _)

theorem State.gives_dstRegInd (a : Byte) : s.Gives [s.srcR a] (s.dstRegInd a) (s.dstInd (s.look (s.srcR a))) :=
  (s.gives_readReg a).bind (State.gives_ok _)

theorem State.gives_readWorkPair (p : Tri) : s.Gives (s.pairWPlaces p) (s.readWorkPair p) (s.pairW p) :=
  State.readWorkPair_src

theorem State.gives_readRegPair {a : Byte} (he : bitOf a 0#3 = false) : s.Gives (s.pairRPlaces a) (s.readRegPair a) (s.pairR a) := by
  rw [State.readRegPair, evenOr_even he, State.pairR, ← wordOf_eq_wordFrom]
  exact (s.gives_readReg a).bind ((s.gives_readReg (a + 1#8)).bind (State.gives_ok _))

theorem State.gives_readIndPair {a : Byte} (he : bitOf a 0#3 = false) :
    s.Gives [s.srcI a, s.srcI (a + 1#8)] (s.readIndPair a) (s.pairI a) := by
  rw [State.readIndPair, evenOr_even he, State.pairI, ← wordOf_eq_wordFrom]
  exact (s.gives_readInd a).bind ((s.gives_readInd (a + 1#8)).bind (State.gives_ok _))

end

/-! ## LD and CLR -/

/-- Settles O15: each form reads its operands in the order of its row and writes one place. -/
theorem loadsAndClears : Obligations.LoadsAndClears := by
  intro s i a h
  cases i with
  | clr_R d => cases h; exact (State.makes_writeLoc _ _).completes rfl
  | clr_IR d => cases h; exact ((s.gives_dstRegInd d).makes (State.makes_writeLoc _ _)).completes rfl
  | ld_r_IM d im => cases h; exact (State.makes_writeLoc _ _).completes rfl
  | ld_r_R d n => cases h; exact ((s.gives_readReg n).makes (State.makes_writeLoc _ _)).completes rfl
  | ld_R_r d n => cases h; exact ((s.gives_readWork n).makes (State.makes_writeLoc _ _)).completes rfl
  | ld_r_Ir d n => cases h; exact ((s.gives_readWorkInd n).makes (State.makes_writeLoc _ _)).completes rfl
  | ld_Ir_r d n =>
    cases h
    exact ((s.gives_readWork d).makes ((s.gives_readWork n).makes (State.makes_writeLoc _ _))).completes rfl
  | ld_R_R d n => cases h; exact ((s.gives_readReg n).makes (State.makes_writeLoc _ _)).completes rfl
  | ld_R_IR d n => cases h; exact ((s.gives_readRegInd n).makes (State.makes_writeLoc _ _)).completes rfl
  | ld_R_IM d im => cases h; exact (State.makes_writeLoc _ _).completes rfl
  | ld_IR_IM d im => cases h; exact ((s.gives_dstRegInd d).makes (State.makes_writeLoc _ _)).completes rfl
  | ld_IR_R d n =>
    cases h
    exact ((s.gives_dstRegInd d).makes ((s.gives_readReg n).makes (State.makes_writeLoc _ _))).completes rfl
  | ld_r_X d x n =>
    cases h
    exact ((s.gives_readWork n).makes ((s.gives_readInd _).makes (State.makes_writeLoc _ _))).completes rfl
  | ld_X_r x n q =>
    cases h
    exact ((s.gives_readWork n).makes ((s.gives_readWork q).makes (State.makes_writeLoc _ _))).completes rfl
  | _ => cases h

/-! ## The address of a memory form -/

/-- A pair plus an offset, as the meanings compute it. -/
def State.pairPlus (s : State) (p : Tri) (offset : Word) : Res Word := do
  let a ← s.readWorkPair p
  return a + offset

/-- The address of a form, as the meanings compute it. -/
def MemForm.find (s : State) : MemForm → Res Word
  | .Irr p => s.pairPlus p 0#16
  | .XS p xs => s.pairPlus p (sext16 xs)
  | .XL p xl => s.pairPlus p xl
  | .DA da => .ok da

section
variable (s : State)

theorem State.gives_pairPlus (p : Tri) (offset : Word) : s.Gives (s.pairWPlaces p) (s.pairPlus p offset) (s.pairW p + offset) := by
  have h := (s.gives_readWorkPair p).bind (f := fun a => pure (a + offset)) (State.gives_ok (s.pairW p + offset))
  rwa [List.append_nil] at h

/-- A signed 8-bit offset, as R134 adds it. -/
theorem add_sext16_eq_ofInt (w : Word) (xs : Byte) : w + sext16 xs = BitVec.ofInt 16 (w.toNat + xs.toInt) := by
  rw [BitVec.ofInt_add, BitVec.ofInt_natCast, BitVec.ofNat_toNat, BitVec.setWidth_eq]
  rfl

/-- A 16-bit offset, as R136 adds it. -/
theorem add_word_eq_ofNat (w xl : Word) : w + xl = BitVec.ofNat 16 (w.toNat + xl.toNat) := by
  rw [BitVec.ofNat_add, BitVec.ofNat_toNat, BitVec.ofNat_toNat, BitVec.setWidth_eq, BitVec.setWidth_eq]

/-- What the meanings compute is the address of the rules (40_load.md R132 to R139). -/
theorem MemForm.gives_find (f : MemForm) : s.Gives (f.reads s) (f.find s) (f.address s) := by
  cases f with
  | Irr p =>
    have h := s.gives_pairPlus p 0#16
    rwa [BitVec.add_zero] at h
  | XS p xs =>
    have h := s.gives_pairPlus p (sext16 xs)
    rwa [add_sext16_eq_ofInt] at h
  | XL p xl =>
    have h := s.gives_pairPlus p xl
    rwa [add_word_eq_ofNat] at h
  | DA da => exact State.gives_ok da

theorem State.loadPair_eq (x : Bool) (d : Nibble) (p : Tri) (o : Word) : s.loadPair x d p o = s.pairPlus p o >>= s.loadMem x d := by
  unfold State.loadPair State.pairPlus
  cases s.readWorkPair p <;> rfl

theorem State.storeData_eq (p : Tri) (o : Word) (n : Nibble) :
    s.storeData p o n = s.pairPlus p o >>= fun a => s.readWork n >>= s.dataWrite a := by
  unfold State.storeData State.pairPlus
  cases s.readWorkPair p <;> rfl

theorem MemForm.exec_ldc (f : MemForm) (d : Nibble) : exec (f.ldc d) s = finish (f.find s >>= s.loadMem false d) := by
  cases f with
  | Irr p => exact congrArg finish (s.loadPair_eq false d p 0#16)
  | XS p xs => exact congrArg finish (s.loadPair_eq false d p (sext16 xs))
  | XL p xl => exact congrArg finish (s.loadPair_eq false d p xl)
  | DA da => rfl

theorem MemForm.exec_lde (f : MemForm) (d : Nibble) : exec (f.lde d) s = finish (f.find s >>= s.loadMem true d) := by
  cases f with
  | Irr p => exact congrArg finish (s.loadPair_eq true d p 0#16)
  | XS p xs => exact congrArg finish (s.loadPair_eq true d p (sext16 xs))
  | XL p xl => exact congrArg finish (s.loadPair_eq true d p xl)
  | DA da => rfl

theorem MemForm.exec_ldeStore (f : MemForm) (n : Nibble) :
    exec (f.ldeStore n) s = finish (f.find s >>= fun a => s.readWork n >>= s.dataWrite a) := by
  cases f with
  | Irr p => exact congrArg finish (s.storeData_eq p 0#16 n)
  | XS p xs => exact congrArg finish (s.storeData_eq p (sext16 xs) n)
  | XL p xl => exact congrArg finish (s.storeData_eq p xl n)
  | DA da => rfl

end

/-! ## Loads from program and data memory -/

section
variable {s : State} {x : Bool} {a : Word} {v : Byte}

/-- LDC reads program memory up to ROM_TOP (20_memory.md R54). -/
theorem State.memRead_program (h : a.toNat ≤ s.launch.part.romTop) : s.memRead false a = .ok (s.rom.read .program a.toNat) :=
  State.progRead_ok h

/-- LDE reads external data memory (20_memory.md R57). -/
theorem State.memRead_external (h : s.launch.hasExtDataMem = true) (a : Word) : s.memRead true a = .ok (s.data.read .external a.toNat) :=
  State.dataRead_ok h a

theorem State.makes_loadMem (h : s.memRead x a = .ok v) (d : Nibble) : s.Makes [] [(s.dstWork d, v)] (s.loadMem x d a) := by
  rw [State.loadMem, h, ok_bind]
  exact State.makes_writeLoc _ _

/-- A load through a form's address. -/
theorem MemForm.makes_load (f : MemForm) (h : s.memRead x (f.address s) = .ok v) (d : Nibble) :
    s.Makes (f.reads s) [(s.dstWork d, v)] (f.find s >>= s.loadMem x d) := by
  have hload := (f.gives_find s).makes (State.makes_loadMem h d)
  rwa [List.append_nil] at hload

end

/-- Settles O16: the address is found, the byte read, the register written. -/
theorem memoryLoads : Obligations.MemoryLoads := by
  intro s f d
  exact ⟨fun h => (f.makes_load (State.memRead_program h) d).completes (f.exec_ldc s d),
    fun h => (f.makes_load (State.memRead_external h _) d).completes (f.exec_lde s d)⟩

/-- The writes of a load that then steps the pair, by whether the register is one of the pair's. -/
theorem State.makes_loadStep {s : State} {x : Bool} {p : Tri} {v : Byte} (h : s.memRead x (s.pairW p) = .ok v) (d : Nibble)
    (delta : Word) : s.Makes (s.pairWPlaces p) (s.stepWrites d p v (s.pairW p + delta)) (s.loadStep x d p delta) := by
  refine (s.gives_readWorkPair p).makes (qs := []) ?_
  simp only [h, ok_bind, State.stepWrites, State.toPairW, ← hiByte_eq_upper, ← loByte_eq_lower]
  split_ifs
  · exact State.makes_writeTwo _ _ _ _
  · exact State.makes_writeTwo _ _ _ _
  · exact State.makes_writeLoc_bind (State.makes_writeTwo _ _ _ _)

/-- One less modulo 2^16 is FFFFH more. -/
theorem sub_one_eq_add (w : Word) : w - 1#16 = w + 0xFFFF#16 := BitVec.sub_eq_add_neg ..

/-- Settles O17: the pair is read, the byte it names, and then the writes are those of the rule. -/
theorem memoryLoadsThenStep : Obligations.MemoryLoadsThenStep := by
  intro s d p
  rw [sub_one_eq_add]
  exact ⟨fun h => ⟨(State.makes_loadStep (State.memRead_program h) d _).completes rfl,
      (State.makes_loadStep (State.memRead_program h) d _).completes rfl⟩,
    fun h => ⟨(State.makes_loadStep (State.memRead_external h _) d _).completes rfl,
      (State.makes_loadStep (State.memRead_external h _) d _).completes rfl⟩⟩

/-! ## Stores to external data memory -/

/-- Every byte of a memory after a write. -/
theorem Memory.read_write {sp : Space} {m : Memory} (h : m.wf sp = true) (a : Nat) (v : Byte) (n : Nat) :
    (m.write sp a v).read sp n = if n = a then v else m.read sp n := by
  split_ifs with hn
  · rw [hn, Memory.read_write_same h]
  · exact Memory.read_write_other m v hn

theorem State.stored_setData (s : State) (m : Memory) (l : Loc) : (s.setData m).stored l = s.stored l :=
  State.stored_congr (fun r => by cases r <;> rfl) rfl rfl l

/-- A byte stored in external data memory: that byte, and nothing else. -/
theorem State.did_setData {s : State} (hs : s.inv = true) (ps : List Loc) (a : Word) (v : Byte) :
    s.Did (s.setData (s.data.write .external a.toNat v)) { reads := ps, store := some (a, v), pc := s.pc } := by
  have kept : s.Did s { pc := s.pc } := State.did_pokes (State.inv_regs hs) { pc := s.pc } rfl
  exact { kept with
    places := fun l hl => (s.stored_setData _ l).trans (kept.places l hl)
    external := Memory.read_write (State.inv_data hs) a.toNat v }

/-- Settles O18: the address and the register are read, the byte is stored. -/
theorem externalStores : Obligations.ExternalStores := by
  intro s f n hdata hs hready
  obtain ⟨hreads, -⟩ := State.ready_iff.1 hready
  obtain ⟨hf, hn⟩ := List.forall_mem_append.1 hreads
  refine ⟨_, ?_, State.did_setData hs _ _ _⟩
  rw [f.exec_ldeStore s n, f.gives_find s hf, ok_bind, s.gives_readWork n hn, ok_bind, State.dataWrite_ok hdata, finish_ok]

/-- The state after a pair has been changed, and the one after the store through it. -/
theorem State.did_stepStoreData {s : State} (hs : s.inv = true) (hdata : s.launch.hasExtDataMem = true) {p : Tri} {n : Nibble}
    {delta w : Word} (hw : s.pairW p + delta = w)
    (hready : s.ready { reads := s.pairWPlaces p ++ [s.srcW n], writes := s.toPairW p w, pc := s.pc } = true) :
    ∃ s1 t, s.Did s1 { writes := s.toPairW p w, pc := s.pc } ∧ s.stepStoreData p delta n = .ok t
      ∧ s1.Did t { store := some (w, s1.look (s.srcW n)), pc := s.pc } := by
  obtain ⟨hreads, hwrites⟩ := State.ready_iff.1 hready
  obtain ⟨hp, hn⟩ := List.forall_mem_append.1 hreads
  have hpair : s.writeWorkPair p w = .ok (s.pokes (s.toPairW p w)) := State.writeWorkPair_ok hwrites
  have hinv : (s.pokes (s.toPairW p w)).inv = true := State.keepsInv_writeTwo hs _ _ _ _ _ hpair
  have hpc : (s.pokes (s.toPairW p w)).pc = s.pc := s.pokes_pc _
  have hdata' : (s.pokes (s.toPairW p w)).launch.hasExtDataMem = true := by rwa [State.pokes_launch]
  have hread : (s.pokes (s.toPairW p w)).readable (s.workLoc s.srcPage n) = true :=
    (State.readable_congr (s.pokes_launch _) _).trans (hn _ (List.mem_singleton_self _))
  have hfirst : s.Did (s.pokes (s.toPairW p w)) { writes := s.toPairW p w, pc := s.pc } := by
    have h := State.did_pokes (State.inv_regs hs) { writes := s.toPairW p w, pc := s.pc } rfl
    rwa [State.updateFlags_none, State.setPc_same hpc] at h
  refine ⟨_, _, hfirst, ?_, hpc ▸ State.did_setData hinv [] w _⟩
  subst hw
  rw [State.stepStoreData, s.gives_readWorkPair p hp, ok_bind, hpair, ok_bind, State.readLoc_ok hread, ok_bind,
    State.dataWrite_ok hdata']
  rfl

/-- Settles O19: the step of the pair by FFFFH or by 1, then the store. -/
theorem stepThenExternalStores : Obligations.StepThenExternalStores := by
  intro s p n i w hs hdata hi hready
  have steps : ∃ delta, exec i s = finish (s.stepStoreData p delta n) ∧ s.pairW p + delta = w := by
    rcases hi with ⟨rfl, rfl⟩ | ⟨rfl, rfl⟩
    · exact ⟨0xFFFF#16, rfl, (sub_one_eq_add _).symm⟩
    · exact ⟨1#16, rfl, rfl⟩
  obtain ⟨delta, hexec, hw⟩ := steps
  obtain ⟨s1, t, hfirst, hok, hsecond⟩ := State.did_stepStoreData hs hdata hw hready
  exact ⟨s1, t, hfirst, by rw [hexec, hok, finish_ok], hsecond⟩

/-! ## Words -/

/-- A word written to an even pair, high byte first (20_memory.md R59). -/
theorem State.makes_loadWord (s : State) {d : Byte} (he : bitOf d 0#3 = false) (w : Word) :
    s.Makes [] (s.toPairR d w) (s.loadWord d w) := by
  rw [State.loadWord, evenOr_even he, State.toPairR, ← hiByte_eq_upper, ← loByte_eq_lower]
  exact State.makes_writeTwo _ _ _ _

/-- Settles O22: the source pair is read, then the destination pair written. -/
theorem wordLoads : Obligations.WordLoads := by
  intro s d n w hd
  refine ⟨fun hn => ?_, fun hp => ?_, (s.makes_loadWord hd w).completes rfl⟩
  · exact ((s.gives_readRegPair hn).makes (s.makes_loadWord hd _)).completes rfl
  · exact ((s.gives_readReg n).makes ((s.gives_readIndPair hp).makes (s.makes_loadWord hd _))).completes rfl

/-! ## The system stack -/

/-- A push: SP one less, then the byte. -/
theorem State.makes_push8 (s : State) (v : Byte) : s.Makes [] (s.pushes s.spl [v]) (s.push8 v) :=
  State.makes_writeTwo (.sys .spl) (.ram s.dstPage (s.spl - 1#8)) (s.spl - 1#8) v

/-- A pop reads the byte at SP, then moves SP as a write of SPL does. -/
theorem State.pop8_bind (s : State) (f : Byte × State → Res State) :
    s.pop8 >>= f = s.readInd s.spl >>= fun v => s.writeLoc (.sys .spl) (s.spl + 1#8) >>= fun t => f (v, t) := by
  unfold State.pop8 State.readInd
  cases s.readLoc (.ram s.srcPage s.spl) <;> rfl

/-- A pop, and what is done with the byte in the state with SP moved. -/
theorem State.makes_pop8 {s : State} {ps : List Loc} {ws : List Write} {f : Byte × State → Res State}
    (hf : (s.setSpl (s.spl + 1#8)).Makes ps ws (f (s.look (s.srcI s.spl), s.setSpl (s.spl + 1#8)))) :
    s.Makes (s.srcI s.spl :: ps) ((.sys .spl, s.spl + 1#8) :: ws) (s.pop8 >>= f) := by
  rw [State.pop8_bind]
  exact (s.gives_readInd s.spl).makes (State.makes_writeLoc_bind hf)

/-- Settles O23: the places of the instruction do not move with SP. -/
theorem pushAndPop : Obligations.PushAndPop := by
  intro s a
  refine ⟨?_, ?_, ?_, ?_⟩
  · exact ((s.gives_readReg a).makes (s.makes_push8 _)).completes rfl
  · exact ((s.gives_readRegInd a).makes (s.makes_push8 _)).completes rfl
  · exact (State.makes_pop8 (State.makes_writeLoc _ _)).completes rfl
  · exact (State.makes_pop8 (((s.setSpl (s.spl + 1#8)).gives_dstRegInd a).makes (State.makes_writeLoc _ _))).completes rfl

/-! ## User stacks -/

section
variable (s : State) (d n k : Byte)

theorem State.makes_userPop :
    s.Makes [s.srcR n, s.srcRI n]
      (if s.dstReg d = s.dstReg n then [(s.dstReg d, s.drawByte .overlap)]
        else [(s.dstReg d, s.look (s.srcRI n)), (s.dstReg n, s.look (s.srcR n) + k)])
      (s.userPop d n k) := by
  refine (s.gives_readReg n).makes ((s.gives_readInd _).makes (qs := []) ?_)
  split_ifs
  · exact State.makes_writeLoc _ _
  · exact State.makes_writeLoc_bind (State.makes_writeLoc _ _)

theorem State.makes_userPush :
    s.Makes [s.srcR n, s.srcR d]
      [(s.dstReg d, s.look (s.srcR d) + k),
       (s.dstInd (s.look (s.srcR d) + k), if s.dstReg d = s.dstReg n then s.drawByte .overlap else s.look (s.srcR n))]
      (s.userPush d n k) :=
  (s.gives_readReg n).makes ((s.gives_readReg d).makes (State.makes_writeLoc_bind (State.makes_writeLoc _ _)))

end

/-- Settles O24: pop and push, with the pointer one less or one more. -/
theorem userStacks : Obligations.UserStacks := by
  intro s d n
  refine ⟨fun i k hi => ?_, fun i k hi => ?_⟩
  · have hexec : exec i s = finish (s.userPop d n k) := by rcases hi with ⟨rfl, rfl⟩ | ⟨rfl, rfl⟩ <;> rfl
    exact (s.makes_userPop d n k).completes hexec
  · have hexec : exec i s = finish (s.userPush d n k) := by rcases hi with ⟨rfl, rfl⟩ | ⟨rfl, rfl⟩ <;> rfl
    exact (s.makes_userPush d n k).completes hexec

end Sys2Proof.Machine


/-! PROOFS. The arithmetic instructions. A meaning reads its operands, writes its result and then the flags: `Computes` says what it
leaves, with the places it needs. What the model computes and what the rules say are compared once an operation, as functions of the
operands. -/

namespace Sys2Proof.Machine

/-- Where these places can be read and these writes made, the operation answers the state after the writes and then these flags. -/
def State.Computes (s : State) (places : List Loc) (ws : List Write) (u : FlagUpdate) (r : Res State) : Prop :=
  (∀ l ∈ places, s.readable l = true) → s.writableAll s.ie ws = true → r = .ok ((s.pokes ws).updateFlags u)

/-! ## Chains that end in flags -/

section
variable {s : State} {α : Type} {ps qs : List Loc} {ws : List Write} {u : FlagUpdate} {r : Res State}

theorem State.computes_flags (u : FlagUpdate) : s.Computes [] [] u (.ok (s.updateFlags u)) := fun _ _ => rfl

/-- The writes, then the flags. -/
theorem State.Makes.computes (hr : s.Makes ps ws r) (u : FlagUpdate) : s.Computes ps ws u (r >>= fun t => .ok (t.updateFlags u)) := by
  intro hps hws
  rw [hr hps hws, ok_bind]

/-- A read and what is computed from its value. -/
theorem State.Gives.computes {x : Res α} {a : α} {f : α → Res State} (hx : s.Gives ps x a) (hf : s.Computes qs ws u (f a)) :
    s.Computes (ps ++ qs) ws u (x >>= f) := by
  intro h hw
  obtain ⟨hps, hqs⟩ := List.forall_mem_append.1 h
  rw [hx hps, ok_bind, hf hqs hw]

/-- The order in which places are read does not matter, nor do further places that can be read. -/
theorem State.Computes.mono (hr : s.Computes ps ws u r) (h : ps ⊆ qs) : s.Computes qs ws u r :=
  fun hqs => hr fun l hl => hqs l (h hl)

theorem State.computes_storeResult (l : Loc) (r : AluResult) : s.Computes [] [(l, r.value)] r.flags (s.storeResult l r) :=
  (State.makes_writeLoc l r.value).computes r.flags

theorem State.computes_storePair {l m : Loc} {r : PairResult} {hi lo : Byte} (hr : r = ⟨hi, lo, u⟩) :
    s.Computes [] [(l, hi), (m, lo)] u (s.storePair l m r) := by
  subst hr
  exact (State.makes_writeTwo l m hi lo).computes u

/-- An instruction whose meaning computes: its access, with pc as it is. -/
theorem State.Computes.completes {i : Instr} (hr : s.Computes ps ws u r) (hi : exec i s = finish r) :
    s.Completes i { reads := ps, writes := ws, flags := u, pc := s.pc } := by
  refine State.completes_of_pokes rfl fun hready => ?_
  obtain ⟨hread, hwrite⟩ := State.ready_iff.1 hready
  rw [hi, hr hread hwrite, finish_ok, State.setPc_same ((State.updateFlags_pc _ u).trans (State.pokes_pc s ws))]

end

/-! ## The forms -/

/-- The meaning of a two-operand form that stores a result. -/
def TwoForm.alu (s : State) (r : Byte → Byte → AluResult) : TwoForm → Res State
  | .r_r d n => s.alu_r_r r d n
  | .r_Ir d n => s.alu_r_Ir r d n
  | .R_R d n => s.alu_R_R r d n
  | .R_IR d n => s.alu_R_IR r d n
  | .R_IM d im => s.alu_R_IM r d im

/-- The meaning of a two-operand form that stores none. -/
def TwoForm.test (s : State) (u : Byte → Byte → FlagUpdate) : TwoForm → Res State
  | .r_r d n => s.test_r_r u d n
  | .r_Ir d n => s.test_r_Ir u d n
  | .R_R d n => s.test_R_R u d n
  | .R_IR d n => s.test_R_IR u d n
  | .R_IM d im => s.test_R_IM u d im

/-- The meaning of a one-operand form. -/
def OneForm.unary (s : State) (r : Byte → AluResult) : OneForm → Res State
  | .r d => s.unary_r r d
  | .R d => s.unary_R r d
  | .IR d => s.unary_IR r d

/-- What a source of MULT and DIV answers. -/
def ByteSource.fetch (s : State) : ByteSource → Res Byte
  | .R n => s.readReg n
  | .IR n => s.readRegInd n
  | .IM im => .ok im

section
variable {s : State} {i : Instr}

theorem TwoForm.computes_alu (g : TwoForm) (r : Byte → Byte → AluResult) :
    s.Computes (g.reads s) [(g.dst s, (r (g.first s) (g.second s)).value)] (r (g.first s) (g.second s)).flags (g.alu s r) := by
  cases g with
  | r_r d n => exact (s.gives_readWork d).computes ((s.gives_readWork n).computes (State.computes_storeResult _ _))
  | r_Ir d n => exact (s.gives_readWork d).computes ((s.gives_readWorkInd n).computes (State.computes_storeResult _ _))
  | R_R d n => exact (s.gives_readReg d).computes ((s.gives_readReg n).computes (State.computes_storeResult _ _))
  | R_IR d n => exact (s.gives_readReg d).computes ((s.gives_readRegInd n).computes (State.computes_storeResult _ _))
  | R_IM d im => exact (s.gives_readReg d).computes (State.computes_storeResult _ _)

theorem TwoForm.computes_test (g : TwoForm) (u : Byte → Byte → FlagUpdate) :
    s.Computes (g.reads s) [] (u (g.first s) (g.second s)) (g.test s u) := by
  cases g with
  | r_r d n => exact (s.gives_readWork d).computes ((s.gives_readWork n).computes (State.computes_flags _))
  | r_Ir d n => exact (s.gives_readWork d).computes ((s.gives_readWorkInd n).computes (State.computes_flags _))
  | R_R d n => exact (s.gives_readReg d).computes ((s.gives_readReg n).computes (State.computes_flags _))
  | R_IR d n => exact (s.gives_readReg d).computes ((s.gives_readRegInd n).computes (State.computes_flags _))
  | R_IM d im => exact (s.gives_readReg d).computes (State.computes_flags _)

theorem OneForm.computes_unary (g : OneForm) (r : Byte → AluResult) :
    s.Computes (g.reads s) [(g.dst s, (r (g.value s)).value)] (r (g.value s)).flags (g.unary s r) := by
  cases g with
  | r d => exact (s.gives_readWork d).computes (State.computes_storeResult _ _)
  | R d => exact (s.gives_readReg d).computes (State.computes_storeResult _ _)
  | IR d => exact (s.gives_readReg d).computes ((s.gives_readInd _).computes (State.computes_storeResult _ _))

theorem ByteSource.gives_fetch (g : ByteSource) : s.Gives (g.reads s) (g.fetch s) (g.value s) := by
  cases g with
  | R n => exact s.gives_readReg n
  | IR n => exact s.gives_readRegInd n
  | IM im => exact State.gives_ok im

/-- A two-operand instruction whose result is the rule's value with the rule's flags. -/
theorem TwoForm.completes_storing {g : TwoForm} {r : Byte → Byte → AluResult} {value : Byte → Byte → Byte}
    {flags : Byte → Byte → FlagUpdate} (hi : exec i s = finish (g.alu s r)) (hr : ∀ a b, r a b = ⟨value a b, flags a b⟩) :
    s.Completes i (g.storing s value flags) := by
  have h := (g.computes_alu r).completes hi
  rwa [hr] at h

/-- A two-operand instruction that writes the rule's flags. -/
theorem TwoForm.completes_testing {g : TwoForm} {u flags : Byte → Byte → FlagUpdate} (hi : exec i s = finish (g.test s u))
    (hu : ∀ a b, u a b = flags a b) : s.Completes i (g.testing s flags) := by
  have h := (g.computes_test u).completes hi
  rwa [hu] at h

/-- A one-operand instruction whose result is the rule's value with the rule's flags. -/
theorem OneForm.completes_storing {g : OneForm} {r : Byte → AluResult} {value : Byte → Byte} {flags : Byte → FlagUpdate}
    (hi : exec i s = finish (g.unary s r)) (hr : ∀ a, r a = ⟨value a, flags a⟩) : s.Completes i (g.storing s value flags) := by
  have h := (g.computes_unary r).completes hi
  rwa [hr] at h

end

/-! ## Addition and subtraction -/

/-- A test for a number, over the naturals. -/
theorem beq_ofNat_eq_decide {w : Nat} (x : BitVec w) {k : Nat} (hk : k < 2 ^ w) :
    (x == BitVec.ofNat w k) = decide (x.toNat = k) := by
  rw [Bool.eq_iff_iff, beq_iff_eq, decide_eq_true_eq, BitVec.toNat_eq, BitVec.toNat_ofNat, Nat.mod_eq_of_lt hk]

theorem beq_zero_eq_decide {w : Nat} (x : BitVec w) : (x == 0#w) = decide (x.toNat = 0) := beq_ofNat_eq_decide x (Nat.two_pow_pos w)

theorem toNat_lowNibble (x : Byte) : (x &&& 0x0F#8).toNat = x.toNat % 16 := by
  rw [BitVec.toNat_and]
  exact Nat.and_two_pow_sub_one_eq_mod x.toNat 4

theorem addResult_value (cin : Bool) (a b : Byte) : (addResult cin a b).value = sumByte cin a b :=
  BitVec.eq_of_toNat_eq (by rw [toNat_addResult, sumByte, sumOf, BitVec.toNat_ofNat])

/-- Bit 8 of the nine-bit sum. -/
theorem addResult_carry (cin : Bool) (a b : Byte) : (addResult cin a b).flags.c = some (decide (0x100 ≤ sumOf cin a b)) := by
  have hc : (BitVec.ofBool cin).toNat = cin.toNat := BitVec.toNat_ofBool cin
  have := a.isLt; have := b.isLt; have := cin.toNat_le
  rw [addResult, Option.some_inj, ← BitVec.msb_eq_getLsbD_last (w := 9), BitVec.msb_eq_decide, decide_eq_decide, sumOf]
  simp only [BitVec.toNat_setWidth, BitVec.toNat_add, hc]
  omega

/-- ADD and ADC compute the exact sum's byte and its flags (41_arithmetic.md R160, R161). -/
theorem addResult_eq (cin : Bool) (a b : Byte) : addResult cin a b = ⟨sumByte cin a b, sumFlags cin a b⟩ := by
  have hz : (sumByte cin a b == 0#8) = decide (sumOf cin a b % 0x100 = 0) := by
    rw [beq_zero_eq_decide, sumByte, BitVec.toNat_ofNat]
  have hs : (sumByte cin a b).msb = decide (0x80 ≤ sumOf cin a b % 0x100) := by
    rw [msb_eq_decide, sumByte, BitVec.toNat_ofNat]
  have hv : (a.msb == b.msb && (sumByte cin a b).msb != a.msb) = decide (a.msb = b.msb ∧ (sumByte cin a b).msb ≠ a.msb) := by
    rw [Bool.eq_iff_iff]
    simp
  calc addResult cin a b
    _ = ⟨(addResult cin a b).value,
          { c := (addResult cin a b).flags.c
            z := some ((addResult cin a b).value == 0#8)
            s := some (addResult cin a b).value.msb
            v := some (a.msb == b.msb && (addResult cin a b).value.msb != a.msb)
            d := some false
            h := some (decide (0x0F < (a &&& 0x0F#8).toNat + (b &&& 0x0F#8).toNat + cin.toNat)) }⟩ := rfl
    _ = ⟨sumByte cin a b, sumFlags cin a b⟩ := by
      rw [addResult_value, addResult_carry, hv, hz, toNat_lowNibble, toNat_lowNibble, sumFlags, ← hs]

theorem toNat_differenceByte (cin : Bool) (a b : Byte) :
    (differenceByte cin a b).toNat = (a.toNat + 512 - b.toNat - cin.toNat) % 256 := by
  have := a.isLt; have := b.isLt; have := cin.toNat_le
  rw [differenceByte, BitVec.toNat_ofInt]
  omega

theorem subResult_value (cin : Bool) (a b : Byte) : (subResult cin a b).value = differenceByte cin a b :=
  BitVec.eq_of_toNat_eq (by rw [toNat_subResult, toNat_differenceByte])

/-- SUB and SBC compute the difference's byte and its flags (41_arithmetic.md R162, R163). -/
theorem subResult_eq (cin : Bool) (a b : Byte) : subResult cin a b = ⟨differenceByte cin a b, borrowFlags cin a b⟩ := by
  have hs : (differenceByte cin a b).msb = decide (0x80 ≤ (differenceByte cin a b).toNat) := msb_eq_decide _
  have hv : (a.msb != b.msb && (differenceByte cin a b).msb == b.msb)
      = decide (a.msb ≠ b.msb ∧ (differenceByte cin a b).msb = b.msb) := by
    rw [Bool.eq_iff_iff]
    simp
  calc subResult cin a b
    _ = ⟨(subResult cin a b).value,
          { c := some (decide (a.toNat < b.toNat + cin.toNat))
            z := some ((subResult cin a b).value == 0#8)
            s := some (subResult cin a b).value.msb
            v := some (a.msb != b.msb && (subResult cin a b).value.msb == b.msb)
            d := some true
            h := some (decide ((a &&& 0x0F#8).toNat < (b &&& 0x0F#8).toNat + cin.toNat)) }⟩ := rfl
    _ = ⟨differenceByte cin a b, borrowFlags cin a b⟩ := by
      rw [subResult_value, hv, beq_zero_eq_decide, toNat_lowNibble, toNat_lowNibble, borrowFlags, differenceFlags, ← hs]

/-- CP computes the C, Z, S, V of SUB (41_arithmetic.md R164). -/
theorem compareFlags_eq (a b : Byte) : compareFlags a b = differenceFlags false a b := by
  rw [compareFlags, subResult_eq]
  rfl

/-- Z and S of a byte, and V = 0. -/
theorem logicFlags_eq (res : Byte) : logicFlags res = zsv res false := by
  rw [logicFlags, zsv, beq_zero_eq_decide, msb_eq_decide]

/-- Settles O25: each form reads its operands and stores the sum. -/
theorem addition : Obligations.Addition := by
  intro s g
  exact ⟨TwoForm.completes_storing (by cases g <;> rfl) (addResult_eq false),
    TwoForm.completes_storing (by cases g <;> rfl) (addResult_eq (s.flag .c))⟩

/-- Settles O26: each form reads its operands and stores the difference. -/
theorem subtraction : Obligations.Subtraction := by
  intro s g
  exact ⟨TwoForm.completes_storing (by cases g <;> rfl) (subResult_eq false),
    TwoForm.completes_storing (by cases g <;> rfl) (subResult_eq (s.flag .c))⟩

/-- Settles O27: each form reads its operands and writes flags. -/
theorem comparisonsAndTests : Obligations.ComparisonsAndTests := by
  intro s g
  exact ⟨TwoForm.completes_testing (by cases g <;> rfl) compareFlags_eq,
    TwoForm.completes_testing (by cases g <;> rfl) fun a b => logicFlags_eq (~~~a &&& b),
    TwoForm.completes_testing (by cases g <;> rfl) fun a b => logicFlags_eq (a &&& b)⟩

/-! ## INC and DEC -/

theorem incResult_eq (a : Byte) :
    incResult a = ⟨BitVec.ofNat 8 (a.toNat + 1), zsv (BitVec.ofNat 8 (a.toNat + 1)) (decide (a.toNat = 0x7F))⟩ := by
  have hv : a + 1#8 = BitVec.ofNat 8 (a.toNat + 1) := BitVec.eq_of_toNat_eq (by simp [BitVec.toNat_add])
  rw [incResult, hv, beq_zero_eq_decide, msb_eq_decide, beq_ofNat_eq_decide a (by decide)]
  rfl

theorem decResult_eq (a : Byte) :
    decResult a = ⟨BitVec.ofNat 8 (a.toNat + 0xFF), zsv (BitVec.ofNat 8 (a.toNat + 0xFF)) (decide (a.toNat = 0x80))⟩ := by
  have hv : a - 1#8 = BitVec.ofNat 8 (a.toNat + 0xFF) := BitVec.eq_of_toNat_eq (by simp [BitVec.toNat_sub]; omega)
  rw [decResult, hv, beq_zero_eq_decide, msb_eq_decide, beq_ofNat_eq_decide a (by decide)]
  rfl

/-- Settles O29: each form reads its operand and stores its neighbour. -/
theorem incrementAndDecrement : Obligations.IncrementAndDecrement := by
  intro s d n
  refine ⟨fun f i h => OneForm.completes_storing ?_ incResult_eq, fun f i h => OneForm.completes_storing ?_ decResult_eq⟩
  · rcases h with ⟨rfl, rfl⟩ | ⟨rfl, rfl⟩ | ⟨rfl, rfl⟩ <;> rfl
  · rcases h with ⟨rfl, rfl⟩ | ⟨rfl, rfl⟩ <;> rfl

/-! ## INCW and DECW -/

theorem incwResult_eq (z : Bool) (w : Word) :
    incwResult z w = ⟨upper (w + 1#16), lower (w + 1#16), wideFlags z (w + 1#16) (decide (w.toNat = 0x7FFF))⟩ := by
  rw [incwResult, hiByte_eq_upper, loByte_eq_lower, BitVec.msb_eq_decide, beq_ofNat_eq_decide w (by decide)]
  rfl

theorem decwResult_eq (z : Bool) (w : Word) :
    decwResult z w = ⟨upper (w - 1#16), lower (w - 1#16), wideFlags z (w - 1#16) (decide (w.toNat = 0x8000))⟩ := by
  rw [decwResult, hiByte_eq_upper, loByte_eq_lower, BitVec.msb_eq_decide, beq_ofNat_eq_decide w (by decide)]
  rfl

section
variable {s : State} {d hi lo : Byte} {u : FlagUpdate} {r : Word → PairResult}

theorem State.computes_wide_RR (hd : bitOf d 0#3 = false) (hr : r (s.pairR d) = ⟨hi, lo, u⟩) :
    s.Computes (s.pairRPlaces d) [(s.dstReg d, hi), (s.dstReg (d + 1#8), lo)] u (s.wide_RR r d) :=
  (s.gives_readRegPair hd).computes (State.computes_storePair hr)

theorem State.computes_wide_IR {p : Byte} (hp : p = s.look (s.srcR d)) (he : bitOf p 0#3 = false) (hr : r (s.pairI p) = ⟨hi, lo, u⟩) :
    s.Computes [s.srcR d, s.srcI p, s.srcI (p + 1#8)] [(s.dstInd p, hi), (s.dstInd (p + 1#8), lo)] u (s.wide_IR r d) := by
  subst hp
  exact (s.gives_readReg d).computes ((s.gives_readIndPair he).computes (State.computes_storePair hr))

end

/-- Settles O33: the word is read, then its neighbour stored. -/
theorem wordIncrementAndDecrement : Obligations.WordIncrementAndDecrement := by
  intro s d
  refine ⟨fun hd => ⟨?_, ?_⟩, fun p hp he => ⟨?_, ?_⟩⟩
  · exact (State.computes_wide_RR hd (incwResult_eq _ _)).completes rfl
  · exact (State.computes_wide_RR hd (decwResult_eq _ _)).completes rfl
  · exact (State.computes_wide_IR hp he (incwResult_eq _ _)).completes rfl
  · exact (State.computes_wide_IR hp he (decwResult_eq _ _)).completes rfl

/-! ## MULT -/

/-- A product of two bytes fits a word. -/
theorem toNat_mul_lt (m n : Byte) : m.toNat * n.toNat < 2 ^ 16 :=
  calc m.toNat * n.toNat
    _ < 2 ^ 8 * 2 ^ 8 := Nat.mul_lt_mul'' m.isLt n.isLt
    _ = 2 ^ 16 := rfl

/-- The product and its flags (41_arithmetic.md R170). -/
theorem multResult_eq (m n : Byte) {p : Nat} (hp : p = m.toNat * n.toNat) :
    multResult m n = ⟨upper (BitVec.ofNat 16 p), lower (BitVec.ofNat 16 p),
      { c := some (decide (0xFF < p)), z := some (decide (p = 0)), s := some (decide (0x8000 ≤ p)), v := some false }⟩ := by
  have hlt : p < 2 ^ 16 := hp ▸ toNat_mul_lt m n
  have hword : m.setWidth 16 * n.setWidth 16 = BitVec.ofNat 16 p := by
    apply BitVec.eq_of_toNat_eq
    rw [BitVec.toNat_mul, BitVec.toNat_setWidth_of_le (by decide), BitVec.toNat_setWidth_of_le (by decide), hp, BitVec.toNat_ofNat]
  have htoNat : (BitVec.ofNat 16 p).toNat = p := by rw [BitVec.toNat_ofNat, Nat.mod_eq_of_lt hlt]
  rw [multResult, hword, hiByte_eq_upper, loByte_eq_lower, BitVec.msb_eq_decide, beq_zero_eq_decide, htoNat]

theorem State.computes_multiply {s : State} {d n hi lo : Byte} {u : FlagUpdate} (hd : bitOf d 0#3 = false)
    (hr : multResult (s.look (s.srcR d)) n = ⟨hi, lo, u⟩) :
    s.Computes [s.srcR d] [(s.dstReg d, hi), (s.dstReg (d + 1#8), lo)] u (s.multiply d n) := by
  rw [State.multiply, evenOr_even hd]
  exact (s.gives_readReg d).computes (State.computes_storePair hr)

theorem ByteSource.exec_mult (g : ByteSource) (s : State) (d : Byte) :
    exec (g.mult d) s = finish (g.fetch s >>= s.multiply d) := by cases g <;> rfl

/-- Settles O34: the source is read, then the even register, then the product stored. -/
theorem multiplication : Obligations.Multiplication := by
  intro s d g p hd hp
  have hplaces : g.reads s ++ [s.srcR d] ⊆ s.srcR d :: g.reads s := by simp
  exact ((g.gives_fetch.computes (State.computes_multiply hd (multResult_eq _ _ hp))).mono hplaces).completes (g.exec_mult s d)

/-! ## DIV -/

theorem divideFits_iff {n : Word} {b : Byte} : divideFits n b = true ↔ 0 < b.toNat ∧ n.toNat / b.toNat ≤ 0xFF := by
  have hb : b ≠ 0#8 ↔ 0 < b.toNat := by rw [Nat.pos_iff_ne_zero, ne_eq, ne_eq, BitVec.toNat_eq, BitVec.toNat_zero]
  rw [divideFits, Bool.and_eq_true, bne_iff_ne, hb, decide_eq_true_eq]

section
variable {n : Word} {b : Byte} (draws : DivideDraws)

/-- Remainder and quotient, where the quotient fits a byte. -/
theorem divideResult_fits (hpos : 0 < b.toNat) (hq : n.toNat / b.toNat ≤ 0xFF) :
    divideResult draws n b = ⟨BitVec.ofNat 8 (n.toNat % b.toNat), BitVec.ofNat 8 (n.toNat / b.toNat),
      { c := some false, z := some (decide (n.toNat / b.toNat = 0)), s := some (decide (0x80 ≤ n.toNat / b.toNat)),
        v := some false }⟩ := by
  have hb : b ≠ 0#8 := fun h => by simp [h] at hpos
  have hbyte : n.toNat / b.toNat % 2 ^ 8 = n.toNat / b.toNat := Nat.mod_eq_of_lt (Nat.lt_succ_of_le hq)
  rw [divideResult, if_neg hb, if_neg (Nat.not_lt.2 hq), msb_eq_decide, BitVec.toNat_ofNat, hbyte]
  rfl

theorem divideResult_zero (hb : b.toNat = 0) :
    divideResult draws n b = ⟨draws.high, draws.low,
      { c := some draws.carry, z := some true, s := some draws.sign, v := some true }⟩ := by
  rw [divideResult, if_pos (BitVec.eq_of_toNat_eq hb)]

theorem divideResult_large (hpos : 0 < b.toNat) (hq : 0xFF < n.toNat / b.toNat) :
    divideResult draws n b = ⟨draws.high, draws.low,
      { c := some (decide (n.toNat / b.toNat ≤ 0x1FF)), z := some false, s := some draws.sign, v := some true }⟩ := by
  have hb : b ≠ 0#8 := fun h => by simp [h] at hpos
  rw [divideResult, if_neg hb, if_pos hq]

end

theorem State.computes_divide {s : State} {d b hi lo : Byte} {u : FlagUpdate} (hd : bitOf d 0#3 = false)
    (hfit : divideFits (s.pairR d) b = true) (hr : divideResult s.divideDraws (s.pairR d) b = ⟨hi, lo, u⟩) :
    s.Computes (s.pairRPlaces d) [(s.dstReg d, hi), (s.dstReg (d + 1#8), lo)] u (s.divide d b) := by
  refine (s.gives_readRegPair hd).computes (qs := []) ?_
  simp only [hfit, if_true]
  exact State.computes_storePair hr

theorem ByteSource.exec_div (g : ByteSource) (s : State) (d : Byte) :
    exec (g.div d) s = finish (g.fetch s >>= s.divide d) := by cases g <;> rfl

/-- Settles O35: the source is read, then the dividend, then remainder and quotient stored. -/
theorem divisionThatFits : Obligations.DivisionThatFits := by
  intro s d g n k hd hn hk hpos hq
  subst hn hk
  have hplaces : g.reads s ++ s.pairRPlaces d ⊆ s.pairRPlaces d ++ g.reads s := by simp
  have hfit : divideFits (s.pairR d) (g.value s) = true := divideFits_iff.2 ⟨hpos, hq⟩
  exact ((g.gives_fetch.computes (State.computes_divide hd hfit (divideResult_fits s.divideDraws hpos hq))).mono hplaces).completes
    (g.exec_div s d)

section
variable {s : State}

theorem State.writableAll_updateFlags (u : FlagUpdate) (ws : List Write) :
    (s.updateFlags u).writableAll (s.updateFlags u).ie ws = s.writableAll s.ie ws := by
  obtain ⟨b, hb⟩ := s.updateFlags_eq u
  rw [hb]
  exact State.writableAll_congr (s := s) (t := s.setFlags b) rfl s.ie ws

/-- Some writes and then some flags: exactly the access that lists them. -/
theorem State.did_pokes_updateFlags (hs : s.inv = true) (ws : List Write) (u : FlagUpdate) :
    s.Did ((s.pokes ws).updateFlags u) { writes := ws, flags := u, pc := s.pc } := by
  have h := State.did_pokes (State.inv_regs hs) { writes := ws, flags := u, pc := s.pc } rfl
  rwa [State.setPc_same ((State.updateFlags_pc _ u).trans (State.pokes_pc s ws))] at h

/-- Where the result is not stated: the flags, then the pair. -/
theorem State.divide_unstated {d b : Byte} (hd : bitOf d 0#3 = false) (hfit : divideFits (s.pairR d) b = false) {hi lo : Byte}
    {u : FlagUpdate} (hr : divideResult s.divideDraws (s.pairR d) b = ⟨hi, lo, u⟩)
    (hread : ∀ l ∈ s.pairRPlaces d, s.readable l = true)
    (hwrite : s.writableAll s.ie [(s.dstReg d, hi), (s.dstReg (d + 1#8), lo)] = true) :
    s.divide d b = .ok ((s.updateFlags u).pokes [(s.dstReg d, hi), (s.dstReg (d + 1#8), lo)]) := by
  rw [← State.writableAll_updateFlags u] at hwrite
  rw [State.divide, s.gives_readRegPair hd hread, ok_bind]
  simp only [hfit, hr, Bool.false_eq_true, if_false]
  exact State.writeTwo_ok hwrite

end

/-- Settles O36: source and dividend are read, then the flags written, then the pair. -/
theorem divisionThatOverflows : Obligations.DivisionThatOverflows := by
  intro s d g n k u ws hs hd hn hk hcase hws hready
  subst hn hk hws
  obtain ⟨hreads, hwrite⟩ := State.ready_iff.1 hready
  obtain ⟨hpair, hsource⟩ := List.forall_mem_append.1 hreads
  have hresult : divideFits (s.pairR d) (g.value s) = false
      ∧ divideResult s.divideDraws (s.pairR d) (g.value s) = ⟨s.drawByte .divHigh, s.drawByte .divLow, u⟩ := by
    rw [← Bool.not_eq_true, divideFits_iff]
    rcases hcase with ⟨hzero, rfl⟩ | ⟨hpos, hlarge, rfl⟩
    · exact ⟨by omega, divideResult_zero _ hzero⟩
    · exact ⟨by omega, divideResult_large _ hpos hlarge⟩
  obtain ⟨hfit, hr⟩ := hresult
  have hs1 : (s.updateFlags u).inv = true := (s.inv_updateFlags u).trans hs
  refine ⟨s.updateFlags u, _, State.did_pokes_updateFlags hs [] u, ?_, s.updateFlags_pc u ▸ State.did_pokes_updateFlags hs1 _ {}⟩
  rw [g.exec_div, g.gives_fetch hsource, ok_bind, State.divide_unstated hd hfit hr hpair hwrite, finish_ok, State.updateFlags_none]

/-! ## DA -/

theorem find?_cons_eq_ite {α : Type} (p : α → Bool) (x : α) (l : List α) :
    (x :: l).find? p = if p x = true then some x else l.find? p := by
  rw [List.find?_cons]
  cases p x <;> rfl

theorem DecimalRow.covers_iff {r : DecimalRow} {d c h : Bool} {a : Byte} :
    r.covers d c h a = true ↔ (r.d = d ∧ r.c = c ∧ r.h = h) ∧ (r.highMin ≤ a.toNat / 16 ∧ a.toNat / 16 ≤ r.highMax)
      ∧ r.lowMin ≤ a.toNat % 16 ∧ a.toNat % 16 ≤ r.lowMax := by
  simp [DecimalRow.covers, and_assoc]

/-- The model's table and the rule's, row by row. -/
theorem decimalTable_find (d c h : Bool) (a : Byte) :
    (decimalTable.find? fun r => r.covers d c h a).map (fun r => (r.added, r.cAfter))
      = (decimalRule d c h (a.toNat / 16) (a.toNat % 16)).map fun x => (BitVec.ofNat 8 x.1, x.2) := by
  have hhi : a.toNat / 16 ≤ 15 := by have := a.isLt; omega
  have hlo : a.toNat % 16 ≤ 15 := by omega
  simp only [decimalTable, find?_cons_eq_ite, DecimalRow.covers_iff, List.find?_nil]
  cases d <;> cases c <;> cases h
  all_goals
    simp only [decimalRule, hhi, hlo, Nat.zero_le, reduceCtorEq, true_and, false_and, and_true, if_false]
    split_ifs <;> rfl

theorem byte_add_ofNat (a : Byte) (k : Nat) : a + BitVec.ofNat 8 k = BitVec.ofNat 8 (a.toNat + k) := by
  rw [BitVec.ofNat_add, BitVec.ofNat_toNat, BitVec.setWidth_eq]

/-- DA computes the rule's byte and its flags. -/
theorem State.decimalAdjust_eq (s : State) (a : Byte) : s.decimalAdjust a = ⟨s.decimalByte a, s.decimalFlags a⟩ := by
  have htable : (decimalTable.find? fun r => r.covers (s.flag .d) (s.flag .c) (s.flag .h) a).map (fun r => (r.added, r.cAfter))
      = (s.decimalRow a).map fun x => (BitVec.ofNat 8 x.1, x.2) := decimalTable_find _ _ _ a
  cases hmodel : decimalTable.find? fun r => r.covers (s.flag .d) (s.flag .c) (s.flag .h) a with
  | none =>
    rw [hmodel, Option.map_none, eq_comm, Option.map_eq_none_iff] at htable
    simp only [State.decimalAdjust, decimalResult, hmodel, State.decimalFlags, State.decimalByte, htable, zsv, beq_zero_eq_decide,
      msb_eq_decide]
    rfl
  | some r =>
    rw [hmodel, Option.map_some, eq_comm, Option.map_eq_some_iff] at htable
    obtain ⟨⟨k, c⟩, hrule, hout⟩ := htable
    obtain ⟨hadded, hcarry⟩ := Prod.mk.inj hout
    simp only [State.decimalAdjust, decimalResult, hmodel, State.decimalFlags, State.decimalByte, hrule, zsv, beq_zero_eq_decide,
      msb_eq_decide, ← hadded, ← hcarry, byte_add_ofNat]
    rfl

/-- Settles O32: each form reads its operand and stores the byte of the table. -/
theorem decimalAdjust : Obligations.DecimalAdjust := by
  intro s d g i h
  refine OneForm.completes_storing (r := s.decimalAdjust) ?_ s.decimalAdjust_eq
  rcases h with ⟨rfl, rfl⟩ | ⟨rfl, rfl⟩ <;> rfl

/-! ## Conditions after a comparison -/

section
variable {s : State}

theorem Res.ensures_bind_eq {α β : Type} {Q : β → Prop} {x : Res α} {a : α} {f : α → Res β} (hx : Res.Ensures (· = a) x)
    (hf : Res.Ensures Q (f a)) : Res.Ensures Q (x >>= f) := Res.ensures_bind hx fun _ h => h ▸ hf

theorem State.ensures_readLoc (s : State) (l : Loc) : Res.Ensures (· = s.look l) (s.readLoc l) := fun _ h => (State.readLoc_eq_ok.1 h).2

theorem State.ensures_readWork (n : Nibble) : Res.Ensures (· = s.look (s.srcW n)) (s.readWork n) := s.ensures_readLoc _

theorem State.ensures_readReg (a : Byte) : Res.Ensures (· = s.look (s.srcR a)) (s.readReg a) := s.ensures_readLoc _

theorem State.ensures_readWorkInd (n : Nibble) : Res.Ensures (· = s.look (s.srcWI n)) (s.readWorkInd n) :=
  Res.ensures_bind_eq (State.ensures_readWork n) (s.ensures_readLoc _)

theorem State.ensures_readRegInd (a : Byte) : Res.Ensures (· = s.look (s.srcRI a)) (s.readRegInd a) :=
  Res.ensures_bind_eq (State.ensures_readReg a) (s.ensures_readLoc _)

/-- Whatever a form that stores nothing leads to, it is the state with its flags. -/
theorem TwoForm.ensures_test (g : TwoForm) (u : Byte → Byte → FlagUpdate) :
    Res.Ensures (· = s.updateFlags (u (g.first s) (g.second s))) (g.test s u) := by
  cases g with
  | r_r d n =>
    exact Res.ensures_bind_eq (State.ensures_readWork d) (Res.ensures_bind_eq (State.ensures_readWork n) (Res.ensures_ok rfl))
  | r_Ir d n =>
    exact Res.ensures_bind_eq (State.ensures_readWork d) (Res.ensures_bind_eq (State.ensures_readWorkInd n) (Res.ensures_ok rfl))
  | R_R d n =>
    exact Res.ensures_bind_eq (State.ensures_readReg d) (Res.ensures_bind_eq (State.ensures_readReg n) (Res.ensures_ok rfl))
  | R_IR d n =>
    exact Res.ensures_bind_eq (State.ensures_readReg d) (Res.ensures_bind_eq (State.ensures_readRegInd n) (Res.ensures_ok rfl))
  | R_IM d im => exact Res.ensures_bind_eq (State.ensures_readReg d) (Res.ensures_ok rfl)

end

/-- Z of a comparison: the operands are equal. -/
theorem compareFlags_zero (a b : Byte) : (compareFlags a b).z = some (decide (a = b)) := by
  have := a.isLt; have := b.isLt
  have hz : (compareFlags a b).z = some (decide ((differenceByte false a b).toNat = 0)) := by rw [compareFlags_eq]; rfl
  rw [hz, Option.some_inj, decide_eq_decide, toNat_differenceByte, BitVec.toNat_eq, Bool.toNat_false]
  omega

/-- S and V of a comparison differ where the first operand is the smaller one as a signed number (10_state.md R22). -/
theorem compareFlags_less (a b : Byte) :
    ((compareFlags a b).s.getD false ^^ (compareFlags a b).v.getD false) = decide (a.toInt < b.toInt) := by
  have := a.isLt; have := b.isLt
  have hs : (compareFlags a b).s = some (subResult false a b).value.msb := rfl
  have hv : (compareFlags a b).v = (subResult false a b).flags.v := rfl
  rw [hs, hv, subResult_overflow, Bool.eq_iff_iff]
  simp only [Option.getD_some, msb_eq_decide, toNat_subResult, toInt_eq_ite, Bool.xor_iff_ne, ne_eq,
    decide_eq_decide, decide_eq_true_eq, Bool.toNat_false]
  split <;> split <;> omega

theorem not_eq_decide {x : Bool} {p q : Prop} [Decidable p] [Decidable q] (hx : x = decide p) (hpq : ¬p ↔ q) : (!x) = decide q := by
  rw [hx, ← decide_not, decide_eq_decide, hpq]

/-- Settles O38: C, Z and S xor V are the three order relations, the other conditions follow. -/
theorem conditionsAfterCompare : Obligations.ConditionsAfterCompare := by
  intro s t g a b ha hb ht
  have hexec : exec (TwoOp.cp.instr g) s = finish (g.test s compareFlags) := by cases g <;> rfl
  have htest : t = s.updateFlags (compareFlags a b) := by
    rw [ha, hb]
    exact g.ensures_test compareFlags t (finish_eq_next.1 (hexec ▸ ht))
  have hflag : ∀ f, t.flag f = ((compareFlags a b).of f).getD (s.flag f) := fun f => by rw [htest, State.flag_updateFlags]
  have hc : t.flag .c = decide (a.toNat < b.toNat) := hflag .c
  have hz : t.flag .z = decide (a = b) := (hflag .z).trans (by rw [FlagUpdate.of, compareFlags_zero]; rfl)
  have hlt : (t.flag .s ^^ t.flag .v) = decide (a.toInt < b.toInt) := by rw [hflag, hflag]; exact compareFlags_less a b
  have hle : (t.flag .z || (t.flag .s ^^ t.flag .v)) = decide (a.toInt ≤ b.toInt) := by
    rw [hz, hlt, ← Bool.decide_or, decide_eq_decide, ← BitVec.toInt_inj]
    omega
  have hule : (t.flag .c || t.flag .z) = decide (a.toNat ≤ b.toNat) := by
    rw [hc, hz, ← Bool.decide_or, decide_eq_decide, BitVec.toNat_eq]
    omega
  exact ⟨hz, not_eq_decide hz Iff.rfl, hc, not_eq_decide hc Nat.not_lt,
    (Bool.not_or _ _).symm.trans (not_eq_decide hule Nat.not_le), hule, hlt, not_eq_decide hlt Int.not_lt,
    not_eq_decide hle Int.not_le, hle⟩

/-! ## Packed decimal -/

/-- A number below 100 by its digits. -/
theorem exists_digits {n : Nat} (hn : n < 100) : ∃ a b, a ≤ 9 ∧ b ≤ 9 ∧ n = 10 * a + b :=
  ⟨n / 10, n % 10, by omega, by omega, by omega⟩

/-- What DA adds after an addition: 6 where the low digits carry, 60H where the numbers do. -/
def sumCorrection (low high : Bool) : Nat := (if low then 0x06 else 0x00) + if high then 0x60 else 0x00

/-- What DA adds after a subtraction: less 6 where the low digits borrow, less 60H where the numbers do, modulo 256. -/
def differenceCorrection (low high : Bool) : Nat := ((if low then 0xFA else 0x00) + if high then 0xA0 else 0x00) % 0x100

section
variable {a b c d t : Nat} (ha : a ≤ 9) (hb : b ≤ 9) (hc : c ≤ 9) (hd : d ≤ 9)
include ha hb

theorem toNat_packed : (packed (10 * a + b)).toNat = a * 16 + b := by
  rw [packed, BitVec.toNat_ofNat]
  omega

include hc hd

/-- The byte sum of two packed numbers, with its carries, is in a row of the table. -/
theorem decimalRule_sum (ht : t = a * 16 + b + (c * 16 + d)) :
    decimalRule false (decide (0x100 ≤ t)) (decide (0x0F < b + d)) (t % 0x100 / 16) (t % 0x100 % 16)
      = some (sumCorrection (decide (10 ≤ b + d)) (decide (100 ≤ 10 * a + b + (10 * c + d))),
          decide (100 ≤ 10 * a + b + (10 * c + d))) := by
  by_cases carry : 0x100 ≤ t <;> by_cases half : 0x0F < b + d
  all_goals
    simp only [carry, half, decide_true, decide_false, decimalRule]
    grind [sumCorrection]

/-- The byte sum with the correction is the packed sum, and 256 where the numbers carry. -/
theorem packed_sum (ht : t = a * 16 + b + (c * 16 + d)) :
    BitVec.ofNat 8 (t % 0x100 + sumCorrection (decide (10 ≤ b + d)) (decide (100 ≤ 10 * a + b + (10 * c + d))))
      = packed ((10 * a + b + (10 * c + d)) % 100) := by
  obtain ⟨x, y, hx, hy, hxy⟩ := exists_digits (Nat.mod_lt (10 * a + b + (10 * c + d)) (by decide : 0 < 100))
  have total : t + sumCorrection (decide (10 ≤ b + d)) (decide (100 ≤ 10 * a + b + (10 * c + d)))
      = x * 16 + y + if 100 ≤ 10 * a + b + (10 * c + d) then 0x100 else 0 := by
    have number : 10 * a + b + (10 * c + d) = 10 * x + y + if 100 ≤ 10 * a + b + (10 * c + d) then 100 else 0 := by
      split_ifs <;> omega
    simp only [sumCorrection, decide_eq_true_eq]
    split_ifs at number ⊢ <;> omega
  apply BitVec.eq_of_toNat_eq
  rw [hxy, toNat_packed hx hy, BitVec.toNat_ofNat, Nat.mod_add_mod, total]
  split_ifs <;> omega

/-- The byte difference of two packed numbers, with its borrows, is in a row of the table. -/
theorem decimalRule_difference (ht : t + (c * 16 + d) = a * 16 + b + 0x100) :
    decimalRule true (decide (10 * a + b < 10 * c + d)) (decide (b < d)) (t % 0x100 / 16) (t % 0x100 % 16)
      = some (differenceCorrection (decide (b < d)) (decide (10 * a + b < 10 * c + d)), decide (10 * a + b < 10 * c + d)) := by
  by_cases borrow : 10 * a + b < 10 * c + d <;> by_cases half : b < d
  all_goals
    simp only [borrow, half, decide_true, decide_false, decimalRule]
    exact if_pos (by omega)

/-- The byte difference with the correction is the packed difference, modulo 256. -/
theorem packed_difference (ht : t + (c * 16 + d) = a * 16 + b + 0x100) :
    BitVec.ofNat 8 (t % 0x100 + differenceCorrection (decide (b < d)) (decide (10 * a + b < 10 * c + d)))
      = packed ((100 + (10 * a + b) - (10 * c + d)) % 100) := by
  obtain ⟨x, y, hx, hy, hxy⟩ := exists_digits (Nat.mod_lt (100 + (10 * a + b) - (10 * c + d)) (by decide : 0 < 100))
  have number : 10 * a + b + (if 10 * a + b < 10 * c + d then 100 else 0) = 10 * x + y + (10 * c + d) := by
    split_ifs <;> omega
  apply BitVec.eq_of_toNat_eq
  rw [hxy, toNat_packed hx hy, BitVec.toNat_ofNat, Nat.mod_add_mod]
  simp only [differenceCorrection, decide_eq_true_eq]
  split_ifs at number ⊢ <;> omega

end

section
variable {m n : Nat} (hm : m < 100) (hn : n < 100)
include hm hn

/-- ADD of two packed numbers leaves C, H and a byte for which DA has a row, which makes it the packed sum. -/
theorem exists_row_sum :
    ∃ k, decimalRule false (decide (0x100 ≤ sumOf false (packed m) (packed n)))
        (decide (0x0F < (packed m).toNat % 16 + (packed n).toNat % 16 + false.toNat))
        ((sumByte false (packed m) (packed n)).toNat / 16) ((sumByte false (packed m) (packed n)).toNat % 16)
          = some (k, decide (100 ≤ m + n))
      ∧ BitVec.ofNat 8 ((sumByte false (packed m) (packed n)).toNat + k) = packed ((m + n) % 100) := by
  obtain ⟨a, b, ha, hb, rfl⟩ := exists_digits hm
  obtain ⟨c, d, hc, hd, rfl⟩ := exists_digits hn
  have ht : sumOf false (packed (10 * a + b)) (packed (10 * c + d)) = a * 16 + b + (c * 16 + d) := by
    rw [sumOf, toNat_packed ha hb, toNat_packed hc hd]
    rfl
  have hlow : (packed (10 * a + b)).toNat % 16 + (packed (10 * c + d)).toNat % 16 + false.toNat = b + d := by
    rw [toNat_packed ha hb, toNat_packed hc hd, Bool.toNat_false]
    omega
  rw [hlow, sumByte, BitVec.toNat_ofNat]
  exact ⟨_, decimalRule_sum ha hb hc hd ht, packed_sum ha hb hc hd ht⟩

/-- SUB of two packed numbers leaves C, H and a byte for which DA has a row, which makes it the packed difference. -/
theorem exists_row_difference :
    ∃ k, decimalRule true (decide ((packed m).toNat < (packed n).toNat + false.toNat))
        (decide ((packed m).toNat % 16 < (packed n).toNat % 16 + false.toNat))
        ((differenceByte false (packed m) (packed n)).toNat / 16) ((differenceByte false (packed m) (packed n)).toNat % 16)
          = some (k, decide (m < n))
      ∧ BitVec.ofNat 8 ((differenceByte false (packed m) (packed n)).toNat + k) = packed ((100 + m - n) % 100) := by
  obtain ⟨a, b, ha, hb, rfl⟩ := exists_digits hm
  obtain ⟨c, d, hc, hd, rfl⟩ := exists_digits hn
  have ht : a * 16 + b + 0x100 - (c * 16 + d) + (c * 16 + d) = a * 16 + b + 0x100 := Nat.sub_add_cancel (by omega)
  have hbyte : (differenceByte false (packed (10 * a + b)) (packed (10 * c + d))).toNat
      = (a * 16 + b + 0x100 - (c * 16 + d)) % 0x100 := by
    rw [toNat_differenceByte, toNat_packed ha hb, toNat_packed hc hd, Bool.toNat_false]
    omega
  have hborrow : (packed (10 * a + b)).toNat < (packed (10 * c + d)).toNat + false.toNat ↔ 10 * a + b < 10 * c + d := by
    rw [toNat_packed ha hb, toNat_packed hc hd, Bool.toNat_false]
    omega
  have hlow : (packed (10 * a + b)).toNat % 16 < (packed (10 * c + d)).toNat % 16 + false.toNat ↔ b < d := by
    rw [toNat_packed ha hb, toNat_packed hc hd, Bool.toNat_false]
    omega
  simp only [hbyte, hborrow, hlow]
  exact ⟨_, decimalRule_difference ha hb hc hd ht, packed_difference ha hb hc hd ht⟩

end

/-! ## An operation in the prime area, and then DA -/

section
variable {s : State} {d : Byte}

theorem State.srcPage_lt (hs : s.inv = true) : s.srcPage.toNat < s.launch.nPages := by
  obtain ⟨-, -, -, -, -, -, -, -, hpages, -⟩ := State.inv_iff.1 hs
  rw [State.pagesExist, Bool.and_eq_true] at hpages
  exact of_decide_eq_true hpages.1

theorem State.srcR_prime (hd : d.toNat < 0xC0) : s.srcR d = .ram s.srcPage d := by
  rw [State.srcR, s.regLoc_phys _ (.inl hd), s.physLoc_prime _ hd]

theorem State.dstReg_prime (hd : d.toNat < 0xC0) : s.dstReg d = .ram s.dstPage d := by
  rw [State.dstReg, s.regLoc_phys _ (.inl hd), s.physLoc_prime _ hd]

/-- One page for sources and destinations: reading and writing one byte of the prime area is possible. -/
theorem State.ready_prime (hs : s.inv = true) (hpage : s.srcPage = s.dstPage) (hd : d.toNat < 0xC0) (v : Byte) (u : FlagUpdate) :
    s.ready { reads := [s.srcR d], writes := [(s.dstReg d, v)], flags := u, pc := s.pc } = true := by
  have hread : s.readable (.ram s.srcPage d) = true := decide_eq_true (State.srcPage_lt hs)
  rw [State.ready_iff, State.dstReg_prime hd, State.srcR_prime hd, ← hpage]
  simp [State.writableAll, State.writable, hread]

/-- After one byte written to the prime area: that byte, and the pages. -/
theorem State.Did.prime {t : State} {v : Byte} {u : FlagUpdate} {ps : List Loc}
    (h : s.Did t { reads := ps, writes := [(s.dstReg d, v)], flags := u, pc := s.pc }) (hd : d.toNat < 0xC0) :
    t.stored (.ram s.dstPage d) = v ∧ t.pp = s.pp := by
  have hplaces := h.places
  rw [State.dstReg_prime hd] at hplaces
  have hbyte := hplaces (.ram s.dstPage d) (by simp)
  have hpp := hplaces (.sys .pp) (by simp)
  simp only [State.heldAfter, List.foldl_cons, List.foldl_nil, if_true] at hbyte
  exact ⟨hbyte, hpp⟩

/-- An instruction that stores a byte with C, D and H, and then DA where the rule has a row for them. -/
theorem State.Completes.then_da {i : Instr} {v : Byte} {u : FlagUpdate} {c dd h c' : Bool} {k : Nat}
    (hi : s.Completes i { reads := [s.srcR d], writes := [(s.dstReg d, v)], flags := u, pc := s.pc })
    (hs : s.inv = true) (hpage : s.srcPage = s.dstPage) (hd : d.toNat < 0xC0)
    (hc : u.c = some c) (hdd : u.d = some dd) (hh : u.h = some h)
    (hrow : decimalRule dd c h (v.toNat / 16) (v.toNat % 16) = some (k, c')) :
    ∃ t t', exec i s = .next t ∧ exec (.da_R d) t = .next t' ∧ t'.stored (.ram s.srcPage d) = BitVec.ofNat 8 (v.toNat + k)
      ∧ t'.flag .c = c' := by
  obtain ⟨t, ht, hdid⟩ := hi hs (State.ready_prime hs hpage hd v u)
  obtain ⟨hv, hpp⟩ := hdid.prime hd
  have hsrc : t.srcPage = s.srcPage := by rw [State.srcPage, hpp]; rfl
  have hdst : t.dstPage = s.dstPage := by rw [State.dstPage, hpp]; rfl
  have hpage' : t.srcPage = t.dstPage := by rw [hsrc, hdst, hpage]
  have hinv : t.inv = true := exec_nextHasInv hs i t ht
  have hlook : t.look (t.srcR d) = v := by
    rw [State.srcR_prime hd, hpage', hdst]
    exact hv
  have hflags : t.decimalRow v = some (k, c') := by
    rw [State.decimalRow, hdid.flags, hdid.flags, hdid.flags]
    simp only [FlagUpdate.of, hc, hdd, hh, Option.getD_some, hrow]
  obtain ⟨t', ht', hdid'⟩ :=
    Sys2Proof.Machine.decimalAdjust t d (.R d) (.da_R d) (.inl ⟨rfl, rfl⟩) hinv (State.ready_prime hinv hpage' hd _ _)
  obtain ⟨hv', -⟩ := hdid'.prime hd
  refine ⟨t, t', ht, ht', ?_, ?_⟩
  · rw [hpage, ← hdst, hv', OneForm.value, hlook, State.decimalByte, hflags]
  · rw [hdid'.flags]
    simp only [OneForm.storing, OneForm.value, hlook, FlagUpdate.of, State.decimalFlags, hflags, Option.getD_some]

end

/-- Settles O39: sum and difference are in rows of the table, whose corrections give the packed result. -/
theorem decimalArithmetic : Obligations.DecimalArithmetic := by
  intro s d m n hs hpage hd hm hn hbyte
  have hlook : s.look (s.srcR d) = packed m := by rw [State.srcR_prime hd]; exact hbyte
  obtain ⟨k, hrow, hsum⟩ := exists_row_sum hm hn
  obtain ⟨k', hrow', hdifference⟩ := exists_row_difference hm hn
  rw [← hlook] at hrow hrow' hsum hdifference
  constructor
  · have hadd := (addition s (.R_IM d (packed n))).1
    obtain ⟨t, u, ht, hu, hv, hc⟩ := hadd.then_da hs hpage hd rfl rfl rfl hrow
    exact ⟨t, u, ht, hu, hv.trans hsum, hc⟩
  · have hsub := (subtraction s (.R_IM d (packed n))).1
    obtain ⟨t, u, ht, hu, hv, hc⟩ := hsub.then_da hs hpage hd rfl rfl rfl hrow'
    exact ⟨t, u, ht, hu, hv.trans hdifference, hc⟩

end Sys2Proof.Machine


/-! PROOFS. The logic instructions (42_logic.md): AND, OR, XOR and COM store one byte, with the flags of `logicFlags_eq`. -/

namespace Sys2Proof.Machine

theorem logicResult_eq (res : Byte) : logicResult res = ⟨res, zsv res false⟩ := by
  rw [logicResult, logicFlags_eq]

/-- The complement as the rule computes it: the distance to FFH (42_logic.md R193). -/
theorem not_eq_ofNat_sub (a : Byte) : ~~~a = BitVec.ofNat 8 (0xFF - a.toNat) := by
  have hlt : 0xFF - a.toNat < 2 ^ 8 := by omega
  apply BitVec.eq_of_toNat_eq
  rw [BitVec.toNat_not, BitVec.toNat_ofNat, Nat.mod_eq_of_lt hlt]

/-- COM computes the complement and its flags. -/
theorem comResult_eq (a : Byte) :
    logicResult (~~~a) = ⟨BitVec.ofNat 8 (0xFF - a.toNat), zsv (BitVec.ofNat 8 (0xFF - a.toNat)) false⟩ := by
  rw [logicResult_eq, not_eq_ofNat_sub]

/-- Settles O28: each form reads its operands and stores the bitwise result. -/
theorem bitwiseLogic : Obligations.BitwiseLogic := by
  intro s
  refine ⟨fun g => ⟨?and, ?or, ?xor⟩, fun d f i h => ?com⟩
  case and => exact TwoForm.completes_storing (by cases g <;> rfl) fun a b => logicResult_eq (a &&& b)
  case or => exact TwoForm.completes_storing (by cases g <;> rfl) fun a b => logicResult_eq (a ||| b)
  case xor => exact TwoForm.completes_storing (by cases g <;> rfl) fun a b => logicResult_eq (a ^^^ b)
  case com =>
    refine OneForm.completes_storing ?_ comResult_eq
    rcases h with ⟨rfl, rfl⟩ | ⟨rfl, rfl⟩ <;> rfl

end Sys2Proof.Machine


/-! PROOFS. Program control. A meaning is a chain of reads and of writes that ends with pc set: `Leaves` says which state it leaves, with
the places it needs. -/

namespace Sys2Proof.Machine

/-- Where these places can be read and these writes made, the operation answers the state after the writes, with this pc. -/
def State.Leaves (s : State) (places : List Loc) (ws : List Write) (pc : Word) (r : Res State) : Prop :=
  (∀ l ∈ places, s.readable l = true) → s.writableAll s.ie ws = true → r = .ok ((s.pokes ws).setPc pc)

/-! ## Writes in two parts -/

theorem State.pokes_append (s : State) (ws vs : List Write) : s.pokes (ws ++ vs) = (s.pokes ws).pokes vs := List.foldl_append

theorem State.pokes_ie (s : State) (ws : List Write) : (s.pokes ws).ie = ws.foldl enableAfter s.ie := by
  induction ws generalizing s with
  | nil => rfl
  | cons w ws ih => rw [State.pokes_cons, ih, State.poke_ie, List.foldl_cons]

theorem State.writableAll_append (s : State) (ie : Bool) (ws vs : List Write) :
    s.writableAll ie (ws ++ vs) = (s.writableAll ie ws && s.writableAll (ws.foldl enableAfter ie) vs) := by
  induction ws generalizing ie with
  | nil => rfl
  | cons w ws ih => rw [List.cons_append, State.writableAll, State.writableAll, ih, Bool.and_assoc, List.foldl_cons]

/-- What can be read and written in two parts: the second part in the state after the first writes, where what can be read is as before. -/
theorem State.accessible_append {s : State} {ps qs : List Loc} {ws vs : List Write} (hr : ∀ l ∈ ps ++ qs, s.readable l = true)
    (hw : s.writableAll s.ie (ws ++ vs) = true) :
    (∀ l ∈ ps, s.readable l = true) ∧ s.writableAll s.ie ws = true
      ∧ (∀ l ∈ qs, (s.pokes ws).readable l = true) ∧ (s.pokes ws).writableAll (s.pokes ws).ie vs = true := by
  obtain ⟨hps, hqs⟩ := List.forall_mem_append.1 hr
  rw [State.writableAll_append, Bool.and_eq_true] at hw
  obtain ⟨hws, hvs⟩ := hw
  refine ⟨hps, hws, fun l hl => (State.readable_congr (s.pokes_launch ws) l).trans (hqs l hl), ?_⟩
  rw [State.writableAll_congr (s.pokes_launch ws), State.pokes_ie, hvs]

/-! ## Chains that end with pc set -/

section
variable {s : State} {α : Type} {ps qs : List Loc} {ws vs : List Write} {pc : Word} {r : Res State}

theorem State.leaves_setPc (pc : Word) : s.Leaves [] [] pc (.ok (s.setPc pc)) := fun _ _ => rfl

/-- A read and what is done with its value. -/
theorem State.Gives.leaves {x : Res α} {a : α} {f : α → Res State} (hx : s.Gives ps x a) (hf : s.Leaves qs ws pc (f a)) :
    s.Leaves (ps ++ qs) ws pc (x >>= f) := by
  intro h hw
  obtain ⟨hps, hqs⟩ := List.forall_mem_append.1 h
  rw [hx hps, ok_bind, hf hqs hw]

/-- Some writes and others made in the state after them. -/
theorem State.Makes.bind {f : State → Res State} (hr : s.Makes ps ws r) (hf : (s.pokes ws).Makes qs vs (f (s.pokes ws))) :
    s.Makes (ps ++ qs) (ws ++ vs) (r >>= f) := by
  intro h hw
  obtain ⟨hps, hws, hqs, hvs⟩ := State.accessible_append h hw
  rw [hr hps hws, ok_bind, hf hqs hvs, State.pokes_append]

/-- Some writes and what is done in the state after them. -/
theorem State.Makes.leaves {f : State → Res State} (hr : s.Makes ps ws r) (hf : (s.pokes ws).Leaves qs vs pc (f (s.pokes ws))) :
    s.Leaves (ps ++ qs) (ws ++ vs) pc (r >>= f) := by
  intro h hw
  obtain ⟨hps, hws, hqs, hvs⟩ := State.accessible_append h hw
  rw [hr hps hws, ok_bind, hf hqs hvs, State.pokes_append]

/-- An instruction whose meaning ends with pc set: its access, with no flag. -/
theorem State.Leaves.completes {i : Instr} (hr : s.Leaves ps ws pc r) (hi : exec i s = finish r) :
    s.Completes i { reads := ps, writes := ws, pc := pc } := by
  refine State.completes_of_pokes rfl fun hready => ?_
  obtain ⟨hread, hwrite⟩ := State.ready_iff.1 hready
  rw [hi, hr hread hwrite, finish_ok, State.updateFlags_none]

end

/-! ## Jumps -/

/-- A relative jump is taken to the address of the rules (43_program_control.md R215), or pc stays. -/
theorem State.jumpIf_eq (s : State) (c : Bool) (ra : Byte) : s.jumpIf c ra = s.setPc (if c = true then s.nearby ra else s.pc) := by
  cases c with
  | false => rfl
  | true => exact congrArg s.setPc (add_sext16_eq_ofInt s.pc ra)

/-- A relative jump in a state `t` whose pc is that of `s`, on a test that decides `P`. -/
theorem State.leaves_jumpIf {s t : State} (hpc : t.pc = s.pc) {c : Bool} {P : Prop} [Decidable P] (hc : c = true ↔ P) (ra : Byte) :
    t.Leaves [] [] (if P then s.nearby ra else s.pc) (.ok (t.jumpIf c ra)) := by
  have hnear : t.nearby ra = s.nearby ra := by rw [State.nearby, State.nearby, hpc]
  simp only [State.jumpIf_eq, hnear, hpc, hc]
  exact State.leaves_setPc _

/-- Settles O42: at most an operand is read, then pc is set or stays. -/
theorem jumps : Obligations.Jumps := by
  intro s i a h
  cases i with
  | btjrf_RA_rb ra n b =>
    cases h
    exact ((s.gives_readWork n).leaves (State.leaves_jumpIf rfl (iff_of_eq (Bool.not_eq_true' _)) ra)).completes rfl
  | btjrt_RA_rb ra n b =>
    cases h
    exact ((s.gives_readWork n).leaves (State.leaves_jumpIf rfl Iff.rfl ra)).completes rfl
  | jp_cc_DA cc da =>
    cases h
    refine (State.leaves_setPc _).completes ?_
    rw [finish_ok, apply_ite s.setPc, State.setPc_self]
    rfl
  | jr_cc_RA cc ra => cases h; exact (State.leaves_jumpIf rfl Iff.rfl ra).completes rfl
  | jp_IRR d =>
    rw [State.jumpAccess, Option.ite_none_right_eq_some] at h
    obtain ⟨he, h⟩ := h
    cases h
    have hchain := (s.gives_readRegPair he).leaves (f := fun w => .ok (s.setPc w)) (State.leaves_setPc (s.pairR d))
    rw [List.append_nil] at hchain
    exact hchain.completes rfl
  | _ => cases h

/-! ## Calls and RET -/

theorem State.makes_push16 (s : State) (w : Word) : s.Makes [] (s.pushes s.spl [lower w, upper w]) (s.push16 w) := by
  rw [State.push16, ← loByte_eq_lower, ← hiByte_eq_upper]
  exact (s.makes_push8 (loByte w)).bind (State.makes_push8 _ (hiByte w))

/-- A pop of a word reads the two bytes from SP on, the high one first. -/
theorem State.gives_pop16 (s : State) :
    s.Gives [s.srcI s.spl, s.srcI (s.spl + 1#8)] s.pop16 (s.pairI s.spl, s.setSpl (s.spl + 2#8)) := by
  intro h
  have hpage : s.srcPage.toNat < s.launch.nPages := of_decide_eq_true (h (s.srcI s.spl) (by simp))
  rw [State.pop16_ok hpage, wordOf_eq_wordFrom]
  rfl

theorem State.leaves_callTo (s : State) (target : Word) : s.Leaves [] s.pushesPc target (s.callTo target) :=
  (s.makes_push16 s.pc).leaves (State.leaves_setPc target)

theorem State.gives_progRead16 (s : State) {a : Word} (h : a.toNat + 1 ≤ s.launch.part.romTop) :
    s.Gives [] (s.progRead16 a) (s.romWord a.toNat) := by
  intro _
  rw [State.progRead16_ok h, wordOf_eq_wordFrom]
  rfl

theorem toNat_zext16 (a : Byte) : (zext16 a).toNat = a.toNat := by
  rw [zext16, BitVec.toNat_setWidth]
  omega

/-- The table of CALL IA (43_program_control.md R203) lies below ROM_TOP in every part. -/
theorem toNat_byte_lt_romTop (p : Part) (a : Byte) : a.toNat < p.romTop := by
  cases p <;> simp only [Part.romTop] <;> omega

/-- Settles O43: the target is read, then the return address pushed; RET pops it. -/
theorem callsAndReturn : Obligations.CallsAndReturn := by
  intro s da d
  refine ⟨(s.leaves_callTo da).completes rfl, fun he => ⟨?irr, ?ia⟩, ?ret⟩
  case irr => exact ((s.gives_readRegPair he).leaves (s.leaves_callTo _)).completes rfl
  case ia =>
    have hread := s.gives_progRead16 (a := zext16 d) (by rw [toNat_zext16]; exact toNat_byte_lt_romTop s.launch.part d)
    rw [toNat_zext16] at hread
    exact (hread.leaves (s.leaves_callTo _)).completes (congrArg finish (evenOr_even he _ _))
  case ret => exact (s.gives_pop16.leaves (ws := [(.sys .spl, s.spl + 2#8)]) fun _ _ => rfl).completes rfl

/-! ## CALL and then RET -/

/-- A place that is not written keeps its byte. -/
theorem State.heldAfter_other {s : State} (hs : s.regs.wf .registers = true) {ws : List Write} {l : Loc} (h : ∀ w ∈ ws, l ≠ w.1) :
    s.heldAfter ws l = s.stored l := by
  induction ws generalizing s with
  | nil => rfl
  | cons w ws ih =>
    rw [State.heldAfter_cons hs, ih (State.poke_regs_wf hs _ _) fun x hx => h x (List.mem_cons_of_mem _ hx), State.stored_poke hs,
      if_neg (h w List.mem_cons_self)]

theorem wordFrom_upper_lower (w : Word) : wordFrom (upper w) (lower w) = w := by
  apply BitVec.eq_of_toNat_eq
  simp only [wordFrom, upper, lower, BitVec.toNat_ofNat]
  omega

/-- An access that writes no flag: every place, FLAGS among them, holds what the writes left there. -/
theorem State.Did.stored_eq {s t : State} {ps : List Loc} {ws : List Write} {pc : Word}
    (h : s.Did t { reads := ps, writes := ws, pc := pc }) (l : Loc) : t.stored l = s.heldAfter ws l := by
  by_cases hl : l = .sys .flags
  · subst hl
    refine byte_ext fun f => ?_
    have hnone : ({} : FlagUpdate).of f = none := by cases f <;> rfl
    have hflag := h.flags f
    rw [hnone] at hflag
    exact hflag
  · exact h.places l hl

/-- What SP and the stack hold after a word was pushed; every other place keeps its byte. -/
theorem State.heldAfter_pushes {s : State} (hs : s.inv = true) (hi lo : Byte) :
    s.heldAfter (s.pushes s.spl [lo, hi]) (.sys .spl) = s.spl - 2#8
      ∧ s.heldAfter (s.pushes s.spl [lo, hi]) (s.dstInd (s.spl - 2#8)) = hi
      ∧ s.heldAfter (s.pushes s.spl [lo, hi]) (s.dstInd (s.spl - 1#8)) = lo
      ∧ ∀ l, l ∉ [.sys .spl, s.dstInd (s.spl - 1#8), s.dstInd (s.spl - 2#8)] →
        s.heldAfter (s.pushes s.spl [lo, hi]) l = s.stored l := by
  have htwo : s.spl - 1#8 - 1#8 = s.spl - 2#8 := by bv_omega
  have hne : s.spl - 1#8 ≠ s.spl - 2#8 := by bv_omega
  refine ⟨?_, ?_, ?_, fun l hl => State.heldAfter_other (State.inv_regs hs) ?_⟩
  · simp [State.heldAfter, State.pushes, landed, htwo]
  · simp [State.heldAfter, State.pushes, State.dstInd, landed, htwo]
  · simp [State.heldAfter, State.pushes, State.dstInd, landed, htwo, hne]
  · simp only [List.mem_cons, List.not_mem_nil, or_false, not_or] at hl
    obtain ⟨hspl, hone, hsnd⟩ := hl
    simpa [State.pushes, State.dstInd, htwo, hspl] using ⟨hone, hsnd⟩

/-- CALL DA (43_program_control.md R202), the page of writes existing: what is left at SP and below it. -/
theorem State.exec_call_DA {s : State} (hs : s.inv = true) (hdst : s.dstPage.toNat < s.launch.nPages) (da : Word) :
    ∃ t, exec (.call_DA da) s = .next t ∧ t.pc = da ∧ t.spl = s.spl - 2#8
      ∧ t.stored (s.dstInd (s.spl - 2#8)) = upper s.pc ∧ t.stored (s.dstInd (s.spl - 1#8)) = lower s.pc
      ∧ ∀ l, l ∉ [.sys .spl, s.dstInd (s.spl - 1#8), s.dstInd (s.spl - 2#8)] → t.stored l = s.stored l := by
  have hready : s.ready { writes := s.pushesPc, pc := da } = true := by
    simp [State.ready, State.pushesPc, State.pushes, State.writableAll, State.writable, State.readable, hdst]
  obtain ⟨hcall, -, -⟩ := callsAndReturn s da 0#8
  obtain ⟨t, ht, hdid⟩ := hcall hs hready
  obtain ⟨hspl, hhi, hlo, hkept⟩ := State.heldAfter_pushes hs (upper s.pc) (lower s.pc)
  exact ⟨t, ht, hdid.pc, (hdid.stored_eq (.sys .spl)).trans hspl, (hdid.stored_eq _).trans hhi, (hdid.stored_eq _).trans hlo,
    fun l hl => (hdid.stored_eq l).trans (hkept l hl)⟩

/-- RET (R212): the word at SP, SP two more, every other place as before. -/
theorem State.exec_ret {s : State} (hs : s.inv = true) :
    ∃ t, exec .ret s = .next t ∧ t.pc = s.pairI s.spl ∧ t.spl = s.spl + 2#8 ∧ ∀ l, l ≠ .sys .spl → t.stored l = s.stored l := by
  have hready : s.ready
      { reads := [s.srcI s.spl, s.srcI (s.spl + 1#8)], writes := [(.sys .spl, s.spl + 2#8)], pc := s.pairI s.spl } = true := by
    simp [State.ready, State.srcI, State.writableAll, State.writable, State.readable, State.srcPage_lt hs]
  obtain ⟨-, -, hret⟩ := callsAndReturn s 0#16 0#8
  obtain ⟨t, ht, hdid⟩ := hret hs hready
  refine ⟨t, ht, hdid.pc, hdid.stored_eq (.sys .spl), fun l hl => ?_⟩
  exact (hdid.stored_eq l).trans (State.heldAfter_other (State.inv_regs hs) (by simpa using hl))

/-- Settles O44: the RET pops the bytes the CALL pushed, and neither writes a place but SP and those bytes. -/
theorem callThenReturn : Obligations.CallThenReturn := by
  intro s da hs hpage
  obtain ⟨t, ht, hda, hspl, hhi, hlo, hcall⟩ := State.exec_call_DA hs (hpage ▸ State.srcPage_lt hs) da
  obtain ⟨u, hu, hpc, hspl', hret⟩ := State.exec_ret (exec_nextHasInv hs _ t ht)
  have hpp : t.pp = s.pp := hcall (.sys .pp) (by simp [State.dstInd])
  have hstack : ∀ a, t.look (t.srcI a) = t.stored (s.dstInd a) := by
    intro a
    have hpages : t.srcPage = s.dstPage := by rw [← hpage, State.srcPage, hpp]; rfl
    rw [State.srcI, hpages]
    rfl
  have hone : s.spl - 2#8 + 1#8 = s.spl - 1#8 := by bv_omega
  have huspl : u.spl = s.spl := by rw [hspl', hspl, BitVec.sub_add_cancel]
  have kept : ∀ l, l ≠ s.dstInd (s.spl - 1#8) → l ≠ s.dstInd (s.spl - 2#8) → u.stored l = s.stored l := by
    intro l h1 h2
    by_cases h : l = .sys .spl
    · subst h; exact huspl
    · exact (hret l h).trans (hcall l (by simp [h, h1, h2]))
  have hword : u.pc = s.pc := by
    rw [hpc, hspl, State.pairI, hone, hstack, hstack, hhi, hlo, wordFrom_upper_lower]
  exact ⟨t, u, ht, hu, hda, hword, huspl, kept (.sys .flags) (by simp [State.dstInd]) (by simp [State.dstInd]), kept⟩

/-! ## CPIJE, CPIJNE, DJNZ -/

/-- A place written, then a relative jump on a test that decides `P`. -/
theorem State.leaves_writeLoc_jumpIf (s : State) (l : Loc) (v : Byte) {c : Bool} {P : Prop} [Decidable P] (hc : c = true ↔ P)
    (ra : Byte) :
    s.Leaves [] [(l, v)] (if P then s.nearby ra else s.pc) (s.writeLoc l v >>= fun t => .ok (t.jumpIf c ra)) :=
  (State.makes_writeLoc l v).leaves (State.leaves_jumpIf (State.pokes_pc s [(l, v)]) hc ra)

theorem State.leaves_compareAndStep (s : State) (want : Bool) (d n : Nibble) (ra : Byte) {P : Prop} [Decidable P]
    (hP : (s.look (s.srcW d) == s.look (s.srcWI n)) = want ↔ P) :
    s.Leaves [s.srcW n, s.srcWI n, s.srcW d] [(s.dstWork n, s.look (s.srcW n) + 1#8)] (if P then s.nearby ra else s.pc)
      (s.compareAndStep want d n ra) :=
  (s.gives_readWork n).leaves ((s.gives_readInd _).leaves ((s.gives_readWork d).leaves
    (s.leaves_writeLoc_jumpIf _ _ (beq_iff_eq.trans hP) ra)))

/-- A counter one less is 0 exactly where it was 1. -/
theorem sub_one_bne_zero (a : Byte) : (a - 1#8 != 0#8) = true ↔ ¬ a.toNat = 1 := by
  rw [bne_iff_ne, ne_eq, BitVec.sub_eq_iff_eq_add, BitVec.toNat_eq]
  rfl

/-- Settles O45: the operands are read, the pointer or counter stepped, then pc set by the test of the values before. -/
theorem compareOrCountAndJump : Obligations.CompareOrCountAndJump := by
  intro s d n ra
  refine ⟨?cpije, ?cpijne, ?djnz⟩
  case cpije => exact (s.leaves_compareAndStep true d n ra beq_iff_eq).completes rfl
  case cpijne =>
    have h := (s.leaves_compareAndStep false d n ra beq_eq_false_iff_ne).completes (i := .cpijne_r_Ir_RA d n ra) rfl
    simpa only [ne_eq, ite_not] using h
  case djnz =>
    have hjump := s.leaves_writeLoc_jumpIf (s.dstWork n) (s.look (s.srcW n) - 1#8) (sub_one_bne_zero (s.look (s.srcW n))) ra
    rw [ite_not] at hjump
    exact ((s.gives_readWork n).leaves hjump).completes rfl

/-! ## ENTER, EXIT, NEXT -/

/-- The walk along the list: pc from the entry at w, IP past it. -/
theorem State.leaves_threadTo (s : State) {w : Word} (h : w.toNat + 1 ≤ s.launch.part.romTop) :
    s.Leaves [] [(.sys .iph, upper (w + 2#16)), (.sys .ipl, lower (w + 2#16))] (s.romWord w.toNat) (s.threadTo w) := by
  rw [← hiByte_eq_upper, ← loByte_eq_lower]
  exact (s.gives_progRead16 h).leaves (qs := []) fun _ _ => rfl

theorem upper_ip (s : State) : upper s.ip = s.iph := by
  rw [← hiByte_eq_upper]
  exact BitVec.extractLsb'_append_eq_left

theorem lower_ip (s : State) : lower s.ip = s.ipl := by
  rw [← loByte_eq_lower]
  exact BitVec.extractLsb'_append_eq_right

/-- Settles O46: IP is pushed, popped or taken as it is; then each instruction walks the list. -/
theorem threadedCode : Obligations.ThreadedCode := by
  intro s
  refine ⟨fun hpc => ?enter, fun w hw htop => ?exit, fun w hw htop => ?next⟩
  case enter =>
    have hpush := s.makes_push16 s.ip
    rw [upper_ip, lower_ip] at hpush
    exact (hpush.leaves (f := fun t => t.threadTo s.pc) (State.leaves_threadTo _ hpc)).completes rfl
  case exit =>
    subst hw
    have hwalk := (s.makes_writeLoc (.sys .spl) (s.spl + 2#8)).leaves (f := fun t => t.threadTo (s.pairI s.spl))
      (State.leaves_threadTo _ htop)
    exact (s.gives_pop16.leaves hwalk).completes rfl
  case next =>
    rw [← wordOf_eq_wordFrom] at hw
    subst hw
    exact (s.leaves_threadTo htop).completes rfl

/-! ## IRET -/

/-- A place outside a list keeps its byte where every system control register outside the list does, and the register memory and IPR. -/
theorem State.stored_congr_off {s t : State} {ls : List Loc} (hsys : ∀ r, .sys r ∉ ls → t.storedSys r = s.storedSys r)
    (hipr : t.ipr = s.ipr) (hregs : t.regs = s.regs) {l : Loc} (hl : l ∉ ls) : t.stored l = s.stored l := by
  cases l with
  | sys r => exact hsys r hl
  | ipr => exact hipr
  | ram p a => rw [State.stored, hregs]; rfl
  | common n => rw [State.stored, hregs]; rfl
  | bank b n => rw [State.stored, hregs]; rfl

/-- Settles O47: three bytes popped, SYM.0 set; a place other than FLAGS, SPL and SYM is not touched. -/
theorem normalReturn : Obligations.NormalReturn := by
  intro s hs hfis
  have hexec := congrArg finish (State.returnFromInterrupt_normal hfis (State.srcPage_lt hs))
  rw [wordOf_eq_wordFrom] at hexec
  refine ⟨_, hexec, rfl, rfl, rfl, rfl, fun l hl => ?_, by constructor <;> rfl⟩
  refine State.stored_congr_off (fun r hr => ?_) ?_ ?_ hl
  · cases r with
    | flags | spl | sym => simp at hr
    | _ => rfl
  · rfl
  · rfl

/-- Settles O48: the exchange; SYM.0 is set, or what it was where it was 0 and the free bit is 0. -/
theorem fastReturn : Obligations.FastReturn := by
  intro s hfis
  have hexec := congrArg finish (State.returnFromInterrupt_fast hfis)
  refine ⟨_, hexec, wordOf_eq_wordFrom _ _, hiByte_eq_upper _, loByte_eq_lower _, rfl, ?sym, fun l hl => ?frame, by constructor <;> rfl⟩
  case sym =>
    cases h : s.ie || s.drawBit .fastReturnEnable with
    | true => exact .inr rfl
    | false =>
      obtain ⟨hie, -⟩ := Bool.or_eq_false_iff.1 h
      have hkept : withBit s.sym 0#3 s.ie = s.sym := withBit_self s.sym 0#3
      rw [hie] at hkept
      exact .inl hkept
  case frame =>
    refine State.stored_congr_off (fun r hr => ?_) ?_ ?_ hl
    · cases r with
      | flags | iph | ipl | sym => simp at hr
      | _ => rfl
    · rfl
    · rfl

end Sys2Proof.Machine


/-! PROOFS. The bit-manipulation instructions (44_bit_manipulation.md). One bit of a byte is replaced as the rules say by
`withBit_eq_replaced`; the flags of a one-bit result are those of `bitFlags_eq_oneBitFlags`. -/

namespace Sys2Proof.Machine

/-! ## One bit of a byte (44_bit_manipulation.md R240) -/

/-- The model sets or clears the bit; the rules clear it and then put the new value there. -/
theorem withBit_eq_replaced (x : Byte) (b : Tri) (v : Bool) : withBit x b v = replaced x b v := by
  have hmask : 1#8 <<< b.toNat = BitVec.twoPow 8 b.toNat := rfl
  rw [withBit, replaced, hmask]
  cases v with
  | false => simp
  | true =>
    ext i
    simp only [if_true, BitVec.getElem_or, BitVec.getElem_and, BitVec.getElem_not]
    cases x[i] <;> cases (BitVec.twoPow 8 b.toNat)[i] <;> rfl

theorem bitFlags_eq_oneBitFlags (s : State) (v : Bool) : bitFlags (s.drawBit .overflowFlag) v = s.oneBitFlags v := by
  rw [bitFlags, State.oneBitFlags, beq_false]

/-- BCP takes Z from the exclusive or of the bits, which is 0 where they are equal (R233). -/
theorem bitFlags_xor (o p q : Bool) : bitFlags o (p ^^ q) = { z := some (decide (p = q)), s := some false, v := some o } := by
  have hz : (!(p ^^ q)) = decide (p = q) := by cases p <;> cases q <;> rfl
  rw [bitFlags, hz]

/-! ## One bit read, one bit written -/

section
variable (s : State)

/-- A byte written with one bit replaced, and no flag. -/
theorem State.makes_replaced (l : Loc) (x : Byte) (b : Tri) (v : Bool) :
    s.Makes [] [(l, replaced x b v)] (s.writeLoc l (withBit x b v)) := by
  rw [withBit_eq_replaced]
  exact State.makes_writeLoc l _

/-- A byte written with one bit replaced, then the flags of that bit. -/
theorem State.computes_replaced (l : Loc) (x : Byte) (b : Tri) (v : Bool) :
    s.Computes [] [(l, replaced x b v)] (s.oneBitFlags v)
      (s.storeResult l { value := withBit x b v, flags := bitFlags (s.drawBit .overflowFlag) v }) := by
  rw [withBit_eq_replaced, bitFlags_eq_oneBitFlags]
  exact State.computes_storeResult l ⟨replaced x b v, s.oneBitFlags v⟩

end

/-! ## The instructions -/

/-- The meaning of form r0,Rb. -/
theorem BitOp.exec_toWork (s : State) (op : BitOp) (d : Nibble) (a : Byte) (b : Tri) :
    exec (op.toWork d a b) s = finish (s.bit_r0_Rb op.on d a b) := by
  cases op <;> rfl

/-- The meaning of form Rb,r0. -/
theorem BitOp.exec_toReg (s : State) (op : BitOp) (a : Byte) (b : Tri) (n : Nibble) :
    exec (op.toReg a b n) s = finish (s.bit_Rb_r0 op.on a b n) := by
  cases op <;> rfl

/-- Settles O40: each form reads its operands and replaces one bit, with the flags of that bit; BCP writes only the flags. -/
theorem bitLogic : Obligations.BitLogic := by
  rintro s op d n a b x y rfl rfl
  refine ⟨?toWork, ?toReg, ?bcp, ?bitc⟩
  case toWork =>
    exact ((s.gives_readWork d).computes ((s.gives_readReg a).computes (s.computes_replaced _ _ _ _))).completes
      (op.exec_toWork s d a b)
  case toReg =>
    exact ((s.gives_readReg a).computes ((s.gives_readWork n).computes (s.computes_replaced _ _ _ _))).completes
      (op.exec_toReg s a b n)
  case bcp =>
    rw [← bitFlags_xor]
    exact ((s.gives_readWork d).computes ((s.gives_readReg a).computes (State.computes_flags _))).completes rfl
  case bitc => exact ((s.gives_readWork d).computes (s.computes_replaced _ _ _ _)).completes rfl

/-- Settles O41: each form reads its operands and replaces one bit. -/
theorem bitLoads : Obligations.BitLoads := by
  rintro s d n a b x y rfl rfl
  refine ⟨?bitr, ?bits, ?toWork, ?toReg⟩
  case bitr => exact ((s.gives_readWork d).makes (s.makes_replaced _ _ _ _)).completes rfl
  case bits => exact ((s.gives_readWork d).makes (s.makes_replaced _ _ _ _)).completes rfl
  case toWork =>
    exact ((s.gives_readWork d).makes ((s.gives_readReg a).makes (s.makes_replaced _ _ _ _))).completes rfl
  case toReg =>
    exact ((s.gives_readReg a).makes ((s.gives_readWork n).makes (s.makes_replaced _ _ _ _))).completes rfl

end Sys2Proof.Machine


/-! PROOFS. The rotate and shift instructions (45_rotate_shift.md). The model joins two bit fields of the operand, the rules write a
number: a field is a quotient and a remainder, and two fields joined are a sum. -/

namespace Sys2Proof.Machine

/-! ## The two forms -/

/-- An instruction in form R or form IR, each with the meaning of its form, whose result is the rule's value with the rule's flags. -/
theorem OneForm.completes_R_or_IR {s : State} {d : Byte} {g : OneForm} {i iR iIR : Instr} {r : Byte → AluResult} {value : Byte → Byte}
    {flags : Byte → FlagUpdate} (h : g = .R d ∧ i = iR ∨ g = .IR d ∧ i = iIR) (hR : exec iR s = finish (s.unary_R r d))
    (hIR : exec iIR s = finish (s.unary_IR r d)) (hr : ∀ a, r a = ⟨value a, flags a⟩) : s.Completes i (g.storing s value flags) := by
  rcases h with ⟨rfl, rfl⟩ | ⟨rfl, rfl⟩
  · exact OneForm.completes_storing hR hr
  · exact OneForm.completes_storing hIR hr

/-! ## Bit fields as numbers -/

/-- Two fields joined, as the number they spell. -/
theorem append_eq_ofNat {v w : Nat} (hi : BitVec v) (lo : BitVec w) : hi ++ lo = BitVec.ofNat (v + w) (hi.toNat * 2 ^ w + lo.toNat) := by
  rw [← Nat.shiftLeft_eq, Nat.shiftLeft_add_eq_or_of_lt lo.isLt, ← BitVec.toNat_append, BitVec.ofNat_toNat, BitVec.setWidth_eq]

/-- The low n bits are the remainder. -/
theorem toNat_lowField {w : Nat} (a : BitVec w) (n : Nat) : (a.extractLsb' 0 n).toNat = a.toNat % 2 ^ n := by
  rw [BitVec.extractLsb'_toNat, Nat.shiftRight_zero]

/-- The bits from bit k up are the quotient. -/
theorem toNat_highField {k w : Nat} (a : BitVec (k + w)) : (a.extractLsb' k w).toNat = a.toNat / 2 ^ k := by
  have hlt : a.toNat / 2 ^ k < 2 ^ w := Nat.div_lt_of_lt_mul (Nat.pow_add 2 k w ▸ a.isLt)
  rw [BitVec.extractLsb'_toNat, Nat.shiftRight_eq_div_pow, Nat.mod_eq_of_lt hlt]

theorem bitAt_zero_eq (a : Byte) : bitAt a 0#3 = decide (a.toNat % 2 = 1) :=
  Nat.testBit_zero a.toNat

theorem bitAt_seven_eq (a : Byte) : bitAt a 7#3 = decide (a.toNat / 128 = 1) := by
  have hlt : a.toNat / 128 < 2 := Nat.div_lt_of_lt_mul a.isLt
  calc bitAt a 7#3
    _ = decide (a.toNat / 128 % 2 = 1) := Nat.testBit_eq_decide_div_mod_eq
    _ = decide (a.toNat / 128 = 1) := by rw [Nat.mod_eq_of_lt hlt]

/-! ## The rotated byte and its flags (R250 to R253, R256) -/

/-- A rotate whose byte and whose bit rotated out are the rule's has the rule's flags. -/
theorem rotateResult_eq {a res value : Byte} {out : Bool} {n : Nat} (hres : res = value) (hout : out = decide (n = 1)) :
    rotateResult a res out = ⟨value, rotateFlags n a value⟩ := by
  have hv : (value.msb != a.msb) = decide (value.msb ≠ a.msb) := by rw [Bool.eq_iff_iff, bne_iff_ne, decide_eq_true_eq]
  subst hres hout
  rw [rotateResult, rotateFlags, zsv, hv, beq_zero_eq_decide, ← msb_eq_decide]

/-- The low seven bits moved up, with a number below them: bit 7 is lost modulo 256. -/
theorem shiftedUp_eq (a : Byte) (n : Nat) : BitVec.ofNat 8 (a.toNat % 2 ^ 7 * 2 ^ 1 + n) = BitVec.ofNat 8 (a.toNat * 2 + n) := by
  apply BitVec.eq_of_toNat_eq
  rw [BitVec.toNat_ofNat, BitVec.toNat_ofNat]
  omega

theorem rlResult_eq (a : Byte) :
    rlResult a = ⟨BitVec.ofNat 8 (a.toNat * 2 + a.toNat / 128),
      rotateFlags (a.toNat / 128) a (BitVec.ofNat 8 (a.toNat * 2 + a.toNat / 128))⟩ := by
  refine rotateResult_eq ?_ (bitAt_seven_eq a)
  rw [append_eq_ofNat, toNat_lowField, toNat_highField (k := 7)]
  exact shiftedUp_eq a _

theorem rlcResult_eq (c : Bool) (a : Byte) :
    rlcResult c a = ⟨BitVec.ofNat 8 (a.toNat * 2 + c.toNat),
      rotateFlags (a.toNat / 128) a (BitVec.ofNat 8 (a.toNat * 2 + c.toNat))⟩ := by
  refine rotateResult_eq ?_ (bitAt_seven_eq a)
  rw [append_eq_ofNat, toNat_lowField, BitVec.toNat_ofBool]
  exact shiftedUp_eq a _

theorem rrResult_eq (a : Byte) :
    rrResult a = ⟨BitVec.ofNat 8 (a.toNat / 2 + a.toNat % 2 * 128),
      rotateFlags (a.toNat % 2) a (BitVec.ofNat 8 (a.toNat / 2 + a.toNat % 2 * 128))⟩ := by
  refine rotateResult_eq ?_ (bitAt_zero_eq a)
  rw [append_eq_ofNat, toNat_lowField, toNat_highField (k := 1)]
  exact congrArg (BitVec.ofNat 8) (Nat.add_comm _ _)

theorem rrcResult_eq (c : Bool) (a : Byte) :
    rrcResult c a = ⟨BitVec.ofNat 8 (a.toNat / 2 + c.toNat * 128),
      rotateFlags (a.toNat % 2) a (BitVec.ofNat 8 (a.toNat / 2 + c.toNat * 128))⟩ := by
  refine rotateResult_eq ?_ (bitAt_zero_eq a)
  rw [append_eq_ofNat, BitVec.toNat_ofBool, toNat_highField (k := 1)]
  exact congrArg (BitVec.ofNat 8) (Nat.add_comm _ _)

/-- Settles O30: each form reads its operand and stores the rotated byte. -/
theorem rotates : Obligations.Rotates := by
  intro s d g
  refine ⟨fun i h => ?rl, fun i h => ?rlc, fun i h => ?rr, fun i h => ?rrc⟩
  case rl => exact OneForm.completes_R_or_IR h rfl rfl rlResult_eq
  case rlc => exact OneForm.completes_R_or_IR h rfl rfl (rlcResult_eq (s.flag .c))
  case rr => exact OneForm.completes_R_or_IR h rfl rfl rrResult_eq
  case rrc => exact OneForm.completes_R_or_IR h rfl rfl (rrcResult_eq (s.flag .c))

/-! ## SRA and SWAP (R254, R255) -/

/-- Bit 7 kept above the other seven shifted down is the signed half, rounded towards minus infinity. -/
theorem sraByte_eq (a : Byte) : (a.extractLsb' 7 1 ++ a.extractLsb' 1 7 : Byte) = BitVec.ofInt 8 (a.toInt / 2) := by
  apply BitVec.eq_of_toNat_eq
  rw [append_eq_ofNat, toNat_highField (k := 7), toNat_highField (k := 1), BitVec.toNat_ofNat, BitVec.toNat_ofInt, toInt_eq_ite]
  have := a.isLt
  split <;> omega

theorem sraResult_eq (a : Byte) :
    sraResult a = ⟨BitVec.ofInt 8 (a.toInt / 2),
      { zsv (BitVec.ofInt 8 (a.toInt / 2)) false with c := some (decide (a.toNat % 2 = 1)) }⟩ := by
  simp only [sraResult, zsv, sraByte_eq, bitAt_zero_eq, beq_zero_eq_decide, msb_eq_decide]

theorem swapByte_eq (a : Byte) :
    (a.extractLsb' 0 4 ++ a.extractLsb' 4 4 : Byte) = BitVec.ofNat 8 (a.toNat % 16 * 16 + a.toNat / 16) := by
  rw [append_eq_ofNat, toNat_lowField, toNat_highField (k := 4)]
  rfl

theorem swapResult_eq (carry overflow : Bool) (a : Byte) :
    swapResult carry overflow a = ⟨BitVec.ofNat 8 (a.toNat % 16 * 16 + a.toNat / 16),
      { zsv (BitVec.ofNat 8 (a.toNat % 16 * 16 + a.toNat / 16)) overflow with c := some carry }⟩ := by
  simp only [swapResult, zsv, swapByte_eq, beq_zero_eq_decide, msb_eq_decide]

/-- Settles O31: each form reads its operand and stores the halved byte, or the byte with its nibbles exchanged. -/
theorem shiftAndSwap : Obligations.ShiftAndSwap := by
  intro s d g
  refine ⟨fun i h => ?sra, fun i h => ?swap⟩
  case sra => exact OneForm.completes_R_or_IR h rfl rfl sraResult_eq
  case swap => exact OneForm.completes_R_or_IR h rfl rfl (swapResult_eq (s.drawBit .carryFlag) (s.drawBit .overflowFlag))

end Sys2Proof.Machine


/-! PROOFS. The CPU-control instructions (46_cpu_control.md). The model writes single bits and joins bit fields, the rules write masks and
numbers: a bit replaced by its complement is a mask flipped, a pointer is a multiple of 8. -/

namespace Sys2Proof.Machine

/-! ## One bit complemented (R260) -/

theorem bitAt_mask (n m : Tri) : bitAt (1#8 <<< n.toNat) m = decide (m = n) := by
  revert n m; decide

theorem bitAt_xor (a b : Byte) (n : Tri) : bitAt (a ^^^ b) n = (bitAt a n ^^ bitAt b n) :=
  BitVec.getLsbD_xor

/-- The mask flips the bit it names and leaves the others. -/
theorem withBit_not_self (b : Byte) (n : Tri) : withBit b n (!bitAt b n) = b ^^^ 1#8 <<< n.toNat := by
  refine byte_ext fun f => ?_
  rw [bitAt_withBit, bitAt_xor, bitAt_mask]
  by_cases h : f.bit = n
  · rw [if_pos h, h, decide_eq_true rfl, Bool.xor_true]
  · rw [if_neg h, decide_eq_false h, Bool.xor_false]

theorem State.putFlag_not_self (s : State) (f : Flag) : s.putFlag f (!s.flag f) = s.setFlags (s.flags ^^^ 1#8 <<< f.bit.toNat) :=
  congrArg s.setFlags (withBit_not_self s.flags f.bit)

/-! ## The register pointers (R267 to R269) -/

/-- SRP0 and SRP1: the operand's bits 7..3 above three 0 bits. -/
theorem pointerByte_eq (im : BitVec 5) : (im ++ 0#3 : Byte) = BitVec.ofNat 8 (im.toNat * 8) :=
  append_eq_ofNat im 0#3

/-- SRP: the operand's bits 7..4, then the bit that tells RP1 from RP0, above three 0 bits. -/
theorem pairedPointerByte_eq (im : BitVec 5) (b : BitVec 1) :
    (im.extractLsb' 1 4 ++ b ++ 0#3 : Byte) = BitVec.ofNat 8 (im.toNat / 2 * 16 + b.toNat * 8) := by
  have hjoin : (im.extractLsb' 1 4 ++ b).toNat = im.toNat / 2 * 2 + b.toNat := by
    have him := im.isLt
    have hb := b.isLt
    rw [append_eq_ofNat, BitVec.toNat_ofNat, toNat_highField (k := 1)]
    omega
  rw [pointerByte_eq, hjoin, Nat.add_mul, Nat.mul_assoc]

/-! ## STOP (R272, R273) -/

theorem State.stopHonoured_of_always {s : State} (h : s.launch.stopKey = none) : s.stopHonoured = true := by
  rw [State.stopHonoured, h]

theorem State.stopHonoured_of_keyed {s : State} {l : Loc} {key : Byte} (h : s.launch.stopKey = some (l, key)) :
    s.stopHonoured = decide (s.stored l = key) := by
  rw [State.stopHonoured, h]
  rfl

/-- STOP writes the mode: Stop, or where it is not honoured the mode there was. -/
theorem exec_stop (s : State) : exec .stop s = .next (s.setPower (if s.stopHonoured then .stop else s.power)) := by
  have hexec : exec .stop s = .next (if s.stopHonoured then s.setPower .stop else s) := rfl
  rw [hexec]
  cases s.stopHonoured <;> rfl

/-! ## The instructions -/

/-- Settles O49: a flag set or cleared is a mask; the complement and the pointers are the bytes of the lemmas above. -/
theorem flagBankAndPointerInstructions : Obligations.FlagBankAndPointerInstructions := by
  intro s im x
  refine ⟨?ccf, ?rcf, ?scf, ?sb0, ?sb1, ?nop, ?srp, ?srp0, ?srp1⟩
  case ccf => exact congrArg Host.Outcome.next (s.putFlag_not_self .c)
  case rcf | scf | sb0 | sb1 | nop => rfl
  case srp =>
    exact congrArg Host.Outcome.next
      (congrArg₂ (fun p q => (s.setRp0 p).setRp1 q) (pairedPointerByte_eq im 0#1) (pairedPointerByte_eq im 1#1))
  case srp0 => exact congrArg Host.Outcome.next (congrArg s.setRp0 (pointerByte_eq im))
  case srp1 => exact congrArg Host.Outcome.next (congrArg s.setRp1 (pointerByte_eq im))

/-- Settles O50: bit 0 cleared or set is a mask. -/
theorem interruptEnableInstructions : Obligations.InterruptEnableInstructions := by
  intro s
  refine ⟨?di, ?ei⟩
  case di | ei => rfl

/-- Settles O51: IDLE and WFI write their mode; STOP does where it is honoured. -/
theorem waitInstructions : Obligations.WaitInstructions := by
  intro s
  refine ⟨?idle, ?wfi, fun halways => ?stop, fun l key hkeyed => ?keyedStop⟩
  case idle | wfi => rfl
  case stop =>
    rw [exec_stop, State.stopHonoured_of_always halways]
    rfl
  case keyedStop =>
    rw [exec_stop, State.stopHonoured_of_keyed hkeyed]
    simp only [decide_eq_true_eq]
    rfl

end Sys2Proof.Machine


/-! PROOFS. Which request is served (60_exceptions.md R289, R290). The order of the levels is that of their ranks, and the walk along the
source list keeps the best request among the sources it has passed. -/

namespace Sys2Proof.Machine

/-! ## The rank of a level -/

/-- The three groups in an order, highest first (10_state.md R31). -/
def groupsInOrder : Config.GroupOrder → List LevelGroup
  | .bca => [.b, .c, .a]
  | .abc => [.a, .b, .c]
  | .bac => [.b, .a, .c]
  | .cab => [.c, .a, .b]
  | .cba => [.c, .b, .a]
  | .acb => [.a, .c, .b]

theorem groupAbove_iff {o : Config.GroupOrder} {g k : LevelGroup} :
    groupAbove o g k = true ↔ (groupsInOrder o).idxOf g < (groupsInOrder o).idxOf k := by
  cases o <;> cases g <;> cases k <;> decide

/-- The place of a level in the whole order of the levels: by its group first, then inside the group. The smaller is served first. -/
def State.levelRank (s : State) (x : Tri) : Nat ×ₗ Nat :=
  toLex ((groupsInOrder s.groupOrder).idxOf (levelGroup x), s.levelsInGroups.idxOf x)

theorem idxOf_groupsInOrder_inj {o : Config.GroupOrder} {g k : LevelGroup} :
    (groupsInOrder o).idxOf g = (groupsInOrder o).idxOf k ↔ g = k := by
  cases o <;> cases g <;> cases k <;> decide

theorem State.outranks_iff {s : State} {x y : Tri} : s.outranks x y = true ↔ s.levelRank x < s.levelRank y := by
  rw [State.levelRank, State.levelRank, Prod.Lex.toLex_lt_toLex]
  by_cases h : levelGroup x = levelGroup y
  · simp [s.outranks_same h, h]
  · simp [s.outranks_other h, groupAbove_iff, idxOf_groupsInOrder_inj, h]

theorem State.outranks_eq_false_iff {s : State} {x y : Tri} : s.outranks x y = false ↔ s.levelRank y ≤ s.levelRank x := by
  rw [Bool.eq_false_iff, ne_eq, State.outranks_iff, not_lt]

theorem State.outranks_self (s : State) (x : Tri) : s.outranks x x = false := State.outranks_eq_false_iff.2 le_rfl

/-! ## The best request so far -/

theorem State.eligible_iff {s : State} {n : Nat} {src : Source} :
    s.eligible n src = true ↔ s.unmasked n src = true ∧ s.ie = true ∧ (s.isFast src && s.flag .fis) = false := by
  rw [State.eligible, Bool.and_eq_true, Bool.and_eq_true, Bool.not_eq_true', and_assoc]

/-- The best so far after one more source, as the walk of `State.servedFrom` chooses it. -/
def State.better (s : State) (best : Option (Nat × Source)) (n : Nat) (src : Source) : Option (Nat × Source) :=
  if s.eligible n src then
    match best with
    | none => some (n, src)
    | some b => if s.outranks src.level b.2.level then some (n, src) else some b
  else best

theorem State.servedFrom_cons (s : State) (n : Nat) (src : Source) (rest : List Source) (best : Option (Nat × Source)) :
    s.servedFrom n (src :: rest) best = s.servedFrom (n + 1) rest (s.better best n src) := rfl

theorem State.better_of_ineligible {s : State} {n : Nat} {src : Source} {best : Option (Nat × Source)}
    (he : s.eligible n src = false) : s.better best n src = best :=
  if_neg (by rw [he]; exact Bool.false_ne_true)

theorem State.better_none {s : State} {n : Nat} {src : Source} (he : s.eligible n src = true) :
    s.better none n src = some (n, src) := if_pos he

theorem State.better_some {s : State} {n : Nat} {src : Source} {b : Nat × Source} (he : s.eligible n src = true) :
    s.better (some b) n src = if s.outranks src.level b.2.level = true then some (n, src) else some b := if_pos he

/-- The request is eligible, and among the eligible ones of a source list none ranks above it, nor stands before it at its level; no
request is the best only where none is eligible. -/
def State.IsBest (s : State) (l : List Source) : Option (Nat × Source) → Prop
  | none => ∀ m other, l[m]? = some other → s.eligible m other = false
  | some (n, src) => l[n]? = some src ∧ s.eligible n src = true
      ∧ ∀ m other, l[m]? = some other → s.eligible m other = true →
        s.outranks other.level src.level = false ∧ (other.level = src.level → n ≤ m)

theorem getElem?_concat_iff {α : Type} {l : List α} {a b : α} {m : Nat} :
    (l ++ [a])[m]? = some b ↔ l[m]? = some b ∨ m = l.length ∧ b = a := by
  rcases Nat.lt_trichotomy m l.length with h | h | h
  · simp [List.getElem?_append_left h, Nat.ne_of_lt h]
  · simp [h, eq_comm]
  · simp [Nat.le_of_lt h, Nat.ne_of_gt h, h]

section
variable {s : State} {seen : List Source} {src : Source} {best : Option (Nat × Source)}

/-- A source without an eligible request changes nothing. -/
theorem State.IsBest.concat_ineligible (h : s.IsBest seen best) (he : s.eligible seen.length src = false) :
    s.IsBest (seen ++ [src]) best := by
  have inSeen : ∀ {m other}, (seen ++ [src])[m]? = some other → s.eligible m other = true → seen[m]? = some other := by
    intro m other hm hother
    rcases getElem?_concat_iff.1 hm with hm | ⟨rfl, rfl⟩
    · exact hm
    · rw [he] at hother
      cases hother
  cases best with
  | none =>
    intro m other hm
    rw [Bool.eq_false_iff]
    intro hother
    rw [h m other (inSeen hm hother)] at hother
    cases hother
  | some b =>
    obtain ⟨hb, heb, habove⟩ := h
    exact ⟨getElem?_concat_iff.2 (.inl hb), heb, fun m other hm hother => habove m other (inSeen hm hother) hother⟩

/-- The first eligible request is the best so far. -/
theorem State.IsBest.concat_first (h : s.IsBest seen none) (he : s.eligible seen.length src = true) :
    s.IsBest (seen ++ [src]) (some (seen.length, src)) := by
  refine ⟨getElem?_concat_iff.2 (.inr ⟨rfl, rfl⟩), he, fun m other hm hother => ?_⟩
  rcases getElem?_concat_iff.1 hm with hm | ⟨rfl, rfl⟩
  · rw [h m other hm] at hother
    cases hother
  · exact ⟨s.outranks_self _, fun _ => Nat.le_refl _⟩

/-- A request of a level that outranks the best so far ranks above all that the best so far ranks above. -/
theorem State.IsBest.concat_above {b : Nat × Source} (h : s.IsBest seen (some b)) (he : s.eligible seen.length src = true)
    (ho : s.outranks src.level b.2.level = true) : s.IsBest (seen ++ [src]) (some (seen.length, src)) := by
  obtain ⟨-, -, habove⟩ := h
  refine ⟨getElem?_concat_iff.2 (.inr ⟨rfl, rfl⟩), he, fun m other hm hother => ?_⟩
  rcases getElem?_concat_iff.1 hm with hm | ⟨rfl, rfl⟩
  · obtain ⟨hnot, -⟩ := habove m other hm hother
    rw [State.outranks_eq_false_iff] at hnot ⊢
    have hlt := State.outranks_iff.1 ho
    refine ⟨hlt.le.trans hnot, fun hlevel => ?_⟩
    rw [hlevel] at hnot
    exact absurd hlt hnot.not_gt
  · exact ⟨s.outranks_self _, fun _ => Nat.le_refl _⟩

/-- A request of a level that does not outrank the best so far leaves it the best: at the same level it stands later. -/
theorem State.IsBest.concat_below {b : Nat × Source} (h : s.IsBest seen (some b)) (ho : s.outranks src.level b.2.level = false) :
    s.IsBest (seen ++ [src]) (some b) := by
  obtain ⟨hb, heb, habove⟩ := h
  refine ⟨getElem?_concat_iff.2 (.inl hb), heb, fun m other hm hother => ?_⟩
  rcases getElem?_concat_iff.1 hm with hm | ⟨rfl, rfl⟩
  · exact habove m other hm hother
  · obtain ⟨hlt, -⟩ := List.getElem?_eq_some_iff.1 hb
    exact ⟨ho, fun _ => hlt.le⟩

theorem State.IsBest.concat (h : s.IsBest seen best) (src : Source) :
    s.IsBest (seen ++ [src]) (s.better best seen.length src) := by
  cases he : s.eligible seen.length src with
  | false =>
    rw [State.better_of_ineligible he]
    exact h.concat_ineligible he
  | true =>
    cases best with
    | none =>
      rw [State.better_none he]
      exact h.concat_first he
    | some b =>
      rw [State.better_some he]
      split_ifs with ho
      · exact h.concat_above he ho
      · exact h.concat_below (Bool.eq_false_iff.2 ho)

end

/-- The walk over the rest of a list, from the best of the sources passed, ends with the best of the whole list. -/
theorem State.isBest_servedFrom {s : State} {seen : List Source} {best : Option (Nat × Source)} (h : s.IsBest seen best)
    (rest : List Source) : s.IsBest (seen ++ rest) (s.servedFrom seen.length rest best) := by
  induction rest generalizing seen best with
  | nil => rwa [List.append_nil]
  | cons src rest ih =>
    have hrest := ih (h.concat src)
    rw [State.servedFrom_cons]
    rwa [List.length_append, List.append_assoc] at hrest

theorem State.isBest_served (s : State) : s.IsBest s.launch.vectorMap s.served :=
  State.isBest_servedFrom (s := s) (seen := []) (best := none) (fun _ _ h => by cases h) s.launch.vectorMap

/-- A served request stands in the source list and is eligible. -/
theorem State.served_eligible {s : State} {n : Nat} {src : Source} (hv : s.served = some (n, src)) :
    s.launch.vectorMap[n]? = some src ∧ s.eligible n src = true := by
  have hbest := s.isBest_served
  rw [hv] at hbest
  obtain ⟨hsrc, he, -⟩ := hbest
  exact ⟨hsrc, he⟩

/-- Settles O54: the walk along the source list ends with its best request. -/
theorem highestRequestServed : Obligations.HighestRequestServed := by
  intro s
  have hbest := s.isBest_served
  refine ⟨fun n src hv => ?some, fun hv => ?none⟩
  case some =>
    rw [hv] at hbest
    obtain ⟨hsrc, he, habove⟩ := hbest
    obtain ⟨hunmasked, hie, -⟩ := State.eligible_iff.1 he
    obtain ⟨hlatch, henable, hmask⟩ := State.unmasked_iff.1 hunmasked
    exact ⟨hsrc, hie, hlatch, henable, hmask, habove⟩
  case none =>
    rwa [hv] at hbest

end Sys2Proof.Machine


/-! PROOFS. The step that takes a request (60_exceptions.md R293, R298): from a settled boundary it is the entry, made in the state with the
wait or mode ended; and a normal entry with the IRET after it. -/

namespace Sys2Proof.Machine

/-! ## The boundary that takes a request -/

theorem anySource_eq_true {test : Nat → Source → Bool} {l : List Source} {n k : Nat} {src : Source} (hk : l[k]? = some src)
    (ht : test (n + k) src = true) : anySource test n l = true := by
  induction l generalizing n k with
  | nil => cases hk
  | cons x xs ih =>
    rw [anySource, Bool.or_eq_true]
    cases k with
    | zero =>
      cases hk
      exact .inl ht
    | succ k =>
      refine .inr (ih hk ?_)
      rwa [Nat.add_assoc, Nat.add_comm 1]

/-- An unmasked request of a source that can end the power-down mode ends it (46_cpu_control.md R270, R272). -/
theorem State.wakes_of_unmasked {s : State} {n : Nat} {src : Source} (hsrc : s.launch.vectorMap[n]? = some src)
    (hu : s.unmasked n src = true) (hx : src.external = true ∨ s.power ≠ .stop) : s.wakes = true := by
  refine anySource_eq_true hsrc ?_
  rw [Nat.zero_add, hu, Bool.true_and, Bool.or_eq_true, bne_iff_ne]
  exact hx

theorem State.wakes_of_externalRequest {s : State} (h : s.externalRequest) : s.wakes = true := by
  obtain ⟨n, src, hsrc, hx, hrequest⟩ := h
  exact State.wakes_of_unmasked hsrc (State.unmasked_iff.2 hrequest) (.inl hx)

/-- The machine with its wait or power-down mode ended and the mark of a delaying instruction cleared: where an entry starts. -/
def State.roused (s : State) : State := ((s.setPower .run).setWaiting false).setLatency false

theorem State.stored_roused (s : State) (l : Loc) : s.roused.stored l = s.stored l :=
  State.stored_congr (fun r => by cases r <;> rfl) rfl rfl l

theorem State.stored_nextTick (s : State) (l : Loc) : s.nextTick.stored l = s.stored l :=
  State.stored_congr (fun r => by cases r <;> rfl) rfl rfl l

theorem State.runBoundary_enter {s : State} {n : Nat} {src : Source} (hv : s.served = some (n, src))
    (hl : s.latency = false ∨ s.waiting = true) : s.runBoundary = .enter n src (s.setWaiting false) := by
  have htaken : (s.latency && !s.waiting && !s.drawBit .latency) = false := by rcases hl with hl | hl <;> simp [hl]
  simp only [State.runBoundary, hv, htaken, Bool.false_eq_true, if_false]

theorem State.powerDownBoundary_enter {s : State} {n : Nat} {src : Source} (hv : s.served = some (n, src)) (hw : s.wakes = true) :
    s.powerDownBoundary = .enter n src ((s.setPower .run).setWaiting false) := by
  obtain ⟨-, he⟩ := State.served_eligible hv
  obtain ⟨-, hie, -⟩ := State.eligible_iff.1 he
  simp only [State.powerDownBoundary, hw, hie, hv, Bool.not_true, Bool.false_eq_true, if_false, if_true]

/-- From a settled boundary the step is the entry of the request served. -/
theorem step_enters {s : State} {n : Nat} {src : Source} (h : s.settled) (hv : s.served = some (n, src)) :
    step s = ticked (finish (s.roused.takeInterrupt n src)) := by
  obtain ⟨-, henv, hmode⟩ := h
  have hboundary : s.boundary = .enter n src ((s.setPower .run).setWaiting false) := by
    rcases hmode with ⟨hp, hl⟩ | hp | ⟨hp, hx⟩
    · have hrun : s.setPower .run = s := by rw [← hp]; rfl
      rw [State.boundary, hp, hrun]
      exact State.runBoundary_enter hv hl
    · obtain ⟨hsrc, he⟩ := State.served_eligible hv
      obtain ⟨hu, -⟩ := State.eligible_iff.1 he
      rw [State.boundary, hp]
      exact State.powerDownBoundary_enter hv (State.wakes_of_unmasked hsrc hu (.inr (by rw [hp]; decide)))
    · rw [State.boundary, hp]
      exact State.powerDownBoundary_enter hv (State.wakes_of_externalRequest hx)
  rw [step, environment_nil henv, hboundary]
  rfl

theorem ticked_finish_ok (t : State) : ticked (finish (.ok t)) = .next t.nextTick := rfl

theorem State.isFast_iff {s : State} {src : Source} : s.isFast src = true ↔ s.fie = true ∧ src.level = s.fil := by
  rw [State.isFast, Bool.and_eq_true, beq_iff_eq]

/-! ## What an entry leaves alone -/

/-- The fields no entry touches: the modes, the counters, the launch, both memories, the inputs and the recorded writes. -/
def State.core (s : State) : (Bool × Bool × Nat × PowerMode) ×
    (Launch × Memory × Memory) × List (List EnvEvent) × List PeriphWrite × Byte × Nat :=
  ((s.waiting, s.latency, s.tick, s.power), (s.launch, s.rom, s.data), s.env, s.events, s.btcnt, s.iprEpoch)

section
variable (s : State)

@[simp] theorem State.core_setPc (w : Word) : (s.setPc w).core = s.core := rfl

@[simp] theorem State.core_putIp (w : Word) : (s.putIp w).core = s.core := rfl

@[simp] theorem State.core_setFlagsShadow (v : Byte) : (s.setFlagsShadow v).core = s.core := rfl

@[simp] theorem State.core_putFlag (f : Flag) (v : Bool) : (s.putFlag f v).core = s.core := rfl

@[simp] theorem State.core_putIe (v : Bool) : (s.putIe v).core = s.core := rfl

@[simp] theorem State.core_setSpl (v : Byte) : (s.setSpl v).core = s.core := rfl

@[simp] theorem State.core_setRegs (m : Memory) : (s.setRegs m).core = s.core := rfl

@[simp] theorem State.core_setPending (p : BitVec 22) : (s.setPending p).core = s.core := rfl

end

/-- A roused machine whose `core` is left alone has, the step counted, the fields of a boundary that takes a request. -/
theorem State.entered_of_core {s t : State} (h : t.core = s.roused.core) : s.Entered t.nextTick := by
  simp only [State.core, Prod.mk.injEq] at h
  obtain ⟨⟨hwaiting, hlatency, htick, hpower⟩, ⟨hlaunch, hrom, hdata⟩, henv, hevents, hbtcnt, hepoch⟩ := h
  exact ⟨hwaiting, hlatency, congrArg (· + 1) htick, hpower, hlaunch, hrom, hdata, henv, hevents, hbtcnt, hepoch⟩

/-! ## The latches -/

/-- Only the latch named is set or cleared. -/
theorem getLsbD_withLatch_other (p : BitVec 22) {n m : Nat} (v : Bool) (h : m ≠ n) :
    (withLatch p n v).getLsbD m = p.getLsbD m := by
  by_cases hm : m < 22
  · rw [getLsbD_withLatch p n m v hm, if_neg h]
  · rw [BitVec.getLsbD_of_ge _ _ (Nat.not_lt.1 hm), BitVec.getLsbD_of_ge _ _ (Nat.not_lt.1 hm)]

/-- A latch cleared, and no other. -/
theorem getLsbD_withLatch_false (p : BitVec 22) (n m : Nat) :
    (withLatch p n false).getLsbD m = (p.getLsbD m && !decide (m = n)) := by
  by_cases h : m = n
  · subst h
    simp [withLatch]
  · simp [getLsbD_withLatch_other p false h, h]

/-- The latches after a normal entry: where hardware clears the source's latch it is cleared (60_exceptions.md R291, R293). -/
theorem getLsbD_latchesTaken (p : BitVec 22) (n m : Nat) (hw : Bool) :
    (if hw = true then withLatch p n false else p).getLsbD m = (p.getLsbD m && !(decide (m = n) && hw)) := by
  cases hw with
  | false => simp
  | true => simp [getLsbD_withLatch_false]

/-! ## Fast entry -/

/-- A bit kept or cleared by another bit: the byte kept, or with the bit cleared. -/
theorem withBit_and_self (b : Byte) (n : Tri) (v : Bool) :
    withBit b n (bitAt b n && v) = b ∨ withBit b n (bitAt b n && v) = withBit b n false := by
  cases v with
  | true => left; rw [Bool.and_true, withBit_self]
  | false => right; rw [Bool.and_false]

/-- `t` is `s` after a fast entry (60_exceptions.md R298) for source n. -/
structure State.FastTaken (s t : State) (n : Nat) : Prop where
  core : t.core = s.core
  pc : t.pc = wordFrom s.iph s.ipl
  iph : t.iph = upper s.pc
  ipl : t.ipl = lower s.pc
  shadow : t.flagsShadow = s.flags
  flags : t.flags = s.flags ||| 0x02#8
  sym : t.sym = s.sym ∨ t.sym = s.sym &&& 0xFE#8
  places : ∀ l, l ∉ [.sys .flags, .sys .iph, .sys .ipl, .sys .sym] → t.stored l = s.stored l
  latches : ∀ m, m ≠ n → t.pending.getLsbD m = s.pending.getLsbD m

/-- The exchange; SYM.0 and the latch are each kept or cleared by a free bit. -/
theorem State.fastTaken_fastEntry (s : State) (n : Nat) : s.FastTaken (s.fastEntry n) n where
  core := by simp [State.fastEntry]
  pc := wordOf_eq_wordFrom _ _
  iph := hiByte_eq_upper _
  ipl := loByte_eq_lower _
  shadow := rfl
  flags := rfl
  sym := withBit_and_self s.sym 0#3 (s.drawBit .fastEntryEnable)
  places l hl := by
    refine State.stored_congr_off (fun r hr => ?_) ?_ ?_ hl
    · cases r with
      | flags | iph | ipl | sym => simp at hr
      | _ => rfl
    · rfl
    · rfl
  latches m hm := getLsbD_withLatch_other s.pending _ hm

theorem State.takeInterrupt_fast {s : State} {src : Source} (h : s.isFast src = true) (n : Nat) :
    ∃ t, s.takeInterrupt n src = .ok t ∧ s.FastTaken t n := ⟨_, if_pos h, s.fastTaken_fastEntry n⟩

/-- Settles O53: the step is the fast entry of the roused machine. -/
theorem fastEntry : Obligations.FastEntry := by
  intro s n src h hv hfie hfil
  obtain ⟨t, ht, htaken⟩ := State.takeInterrupt_fast (s := s.roused) (State.isFast_iff.2 ⟨hfie, hfil⟩) n
  have hstep := step_enters h hv
  rw [ht, ticked_finish_ok] at hstep
  exact ⟨t.nextTick, hstep, State.entered_of_core htaken.core, htaken.pc, htaken.iph, htaken.ipl, htaken.shadow, htaken.flags,
    htaken.sym, fun l hl => (t.stored_nextTick l).trans ((htaken.places l hl).trans (s.stored_roused l)), htaken.latches⟩

/-! ## Normal entry -/

theorem State.dstPage_lt {s : State} (hs : s.inv = true) : s.dstPage.toNat < s.launch.nPages := by
  obtain ⟨-, -, -, -, -, -, -, -, hpages, -⟩ := State.inv_iff.1 hs
  obtain ⟨-, hdst⟩ := (Bool.and_eq_true _ _).mp hpages
  exact of_decide_eq_true hdst

/-- The bytes of a normal entry, one after another: PC low, PC high, FLAGS (60_exceptions.md R293). -/
def State.pushesEntry (s : State) : List Write := s.pushes s.spl [lower s.pc, upper s.pc, s.flags]

theorem State.entryRegs_eq (s : State) : s.entryRegs = (s.pokes s.pushesEntry).regs := by
  rw [State.entryRegs, hiByte_eq_upper, loByte_eq_lower]
  rfl

/-- Ending a wait changes nothing of what the pushes of an entry leave. -/
theorem State.heldAfter_roused (s : State) (l : Loc) : s.roused.heldAfter s.roused.pushesEntry l = s.heldAfter s.pushesEntry l := by
  have hstored : s.roused.stored = s.stored := funext s.stored_roused
  have hpushes : s.roused.pushesEntry = s.pushesEntry := rfl
  rw [State.heldAfter, hstored, hpushes]
  rfl

/-- What the stack holds after the pushes of an entry; every place but SP and those bytes keeps its byte. -/
theorem State.heldAfter_pushesEntry {s : State} (hs : s.inv = true) :
    s.heldAfter s.pushesEntry (.sys .spl) = s.spl - 3#8
      ∧ s.heldAfter s.pushesEntry (s.dstInd (s.spl - 3#8)) = s.flags
      ∧ s.heldAfter s.pushesEntry (s.dstInd (s.spl - 2#8)) = upper s.pc
      ∧ s.heldAfter s.pushesEntry (s.dstInd (s.spl - 1#8)) = lower s.pc
      ∧ ∀ l, l ∉ [.sys .spl, s.dstInd (s.spl - 1#8), s.dstInd (s.spl - 2#8), s.dstInd (s.spl - 3#8)] →
        s.heldAfter s.pushesEntry l = s.stored l := by
  have htwo : s.spl - 1#8 - 1#8 = s.spl - 2#8 := by bv_omega
  have hthree : s.spl - 2#8 - 1#8 = s.spl - 3#8 := by bv_omega
  have h12 : s.spl - 1#8 ≠ s.spl - 2#8 := by bv_omega
  have h13 : s.spl - 1#8 ≠ s.spl - 3#8 := by bv_omega
  have h23 : s.spl - 2#8 ≠ s.spl - 3#8 := by bv_omega
  refine ⟨?_, ?_, ?_, ?_, fun l hl => State.heldAfter_other (State.inv_regs hs) ?_⟩
  · simp [State.heldAfter, State.pushesEntry, State.pushes, landed, htwo, hthree]
  · simp [State.heldAfter, State.pushesEntry, State.pushes, State.dstInd, landed, htwo, hthree]
  · simp [State.heldAfter, State.pushesEntry, State.pushes, State.dstInd, landed, htwo, hthree, h23]
  · simp [State.heldAfter, State.pushesEntry, State.pushes, State.dstInd, landed, htwo, hthree, h12, h13]
  · simp only [List.mem_cons, List.not_mem_nil, or_false, not_or] at hl
    obtain ⟨hspl, hone, hsnd, hthird⟩ := hl
    simpa [State.pushesEntry, State.pushes, State.dstInd, htwo, hthree, hspl] using ⟨hone, hsnd, hthird⟩

/-- The state after a normal entry (60_exceptions.md R293) with this target. -/
def State.normallyEntered (s : State) (n : Nat) (src : Source) : State :=
  ((((s.putIe false).setSpl (s.spl - 1#8 - 1#8 - 1#8)).setRegs s.entryRegs).setPending
      (if src.hardwareClear = true then withLatch s.pending n false else s.pending)).setPc (s.romWord src.vector.toNat)

theorem State.normalEntry_even {s : State} {src : Source} (hs : s.inv = true) (he : bitAt src.vector 0#3 = false) (n : Nat) :
    s.normalEntry n src = .ok (s.normallyEntered n src) := by
  have htop : (zext16 src.vector).toNat + 1 ≤ s.launch.part.romTop := by
    rw [toNat_zext16]
    exact toNat_byte_lt_romTop s.launch.part src.vector
  rw [State.normalEntry_ok (State.dstPage_lt hs) he htop, wordOf_eq_wordFrom, toNat_zext16]
  rfl

/-- Every place but SYM holds what the pushes left there. -/
theorem State.stored_normallyEntered {s : State} (hs : s.inv = true) (n : Nat) (src : Source) {l : Loc} (hl : l ∉ [.sys .sym]) :
    (s.normallyEntered n src).stored l = s.heldAfter s.pushesEntry l := by
  rw [← State.stored_pokes (State.inv_regs hs)]
  refine State.stored_congr_off (fun r hr => ?_) ?_ ?_ hl
  · cases r with
    | sym => simp at hr
    | _ => rfl
  · rfl
  · exact s.entryRegs_eq

/-- `t` is `s` after a normal entry (60_exceptions.md R293) for a source of number n. -/
structure State.NormallyTaken (s t : State) (n : Nat) (src : Source) : Prop where
  core : t.core = s.core
  pc : t.pc = s.romWord src.vector.toNat
  sym : t.sym = s.sym &&& 0xFE#8
  places : ∀ l, l ≠ .sys .sym → t.stored l = s.heldAfter s.pushesEntry l
  latches : ∀ m, t.pending.getLsbD m = (s.pending.getLsbD m && !(decide (m = n) && src.hardwareClear))
  shadow : t.flagsShadow = s.flagsShadow

theorem State.normallyTaken_normallyEntered {s : State} (hs : s.inv = true) (n : Nat) (src : Source) :
    s.NormallyTaken (s.normallyEntered n src) n src where
  core := by simp [State.normallyEntered]
  pc := rfl
  sym := rfl
  places l hl := State.stored_normallyEntered hs n src (by simpa using hl)
  latches m := getLsbD_latchesTaken s.pending n m src.hardwareClear
  shadow := rfl

theorem State.takeInterrupt_normal {s : State} (hs : s.inv = true) {src : Source} (h : ¬ s.isFast src = true)
    (he : bitAt src.vector 0#3 = false) (n : Nat) : ∃ t, s.takeInterrupt n src = .ok t ∧ s.NormallyTaken t n src :=
  ⟨_, (if_neg h).trans (State.normalEntry_even hs he n), State.normallyTaken_normallyEntered hs n src⟩

theorem State.takeInterrupt_odd {s : State} (hs : s.inv = true) {src : Source} (h : ¬ s.isFast src = true)
    (ho : bitAt src.vector 0#3 = true) (n : Nat) : s.takeInterrupt n src = .error (.refusal .oddVector) :=
  (if_neg h).trans (State.normalEntry_odd (State.dstPage_lt hs) ho)

/-- Settles O52: the step is the normal entry of the roused machine, or its refusal. -/
theorem normalEntry : Obligations.NormalEntry := by
  intro s n src h hv hslow
  have hstep := step_enters h hv
  obtain ⟨hs, -, -⟩ := h
  have hnotFast : ¬ s.roused.isFast src = true := fun hfast => hslow (State.isFast_iff.1 hfast)
  refine ⟨fun hodd => ?odd, fun heven => ?even⟩
  case odd =>
    rw [hstep, State.takeInterrupt_odd (s := s.roused) hs hnotFast hodd]
    rfl
  case even =>
    obtain ⟨t, ht, htaken⟩ := State.takeInterrupt_normal (s := s.roused) hs hnotFast heven n
    rw [ht, ticked_finish_ok] at hstep
    have hstored : ∀ l, l ≠ .sys .sym → t.nextTick.stored l = s.heldAfter s.pushesEntry l := fun l hl =>
      (t.stored_nextTick l).trans ((htaken.places l hl).trans (s.heldAfter_roused l))
    obtain ⟨hspl, hflags, hhi, hlo, hkept⟩ := State.heldAfter_pushesEntry hs
    have hstack : ∀ a, t.nextTick.stored (s.dstInd a) = s.heldAfter s.pushesEntry (s.dstInd a) := fun a =>
      hstored (s.dstInd a) (by simp [State.dstInd])
    have kept : ∀ l, l ∉ [.sys .sym, .sys .spl, s.dstInd (s.spl - 1#8), s.dstInd (s.spl - 2#8), s.dstInd (s.spl - 3#8)] →
        t.nextTick.stored l = s.stored l := by
      intro l hl
      rw [List.mem_cons, not_or] at hl
      obtain ⟨hsym, hl⟩ := hl
      exact (hstored l hsym).trans (hkept l hl)
    exact ⟨t.nextTick, hstep, State.entered_of_core htaken.core, htaken.pc, (hstored (.sys .spl) (by decide)).trans hspl,
      (hstack _).trans hflags, (hstack _).trans hhi, (hstack _).trans hlo, kept (.sys .flags) (by simp [State.dstInd]),
      htaken.sym, kept, htaken.latches, htaken.shadow⟩

/-! ## The entry and its IRET -/

theorem or_one_and_mask_of_bit0 {b : Byte} (h : bitAt b 0#3 = true) : b &&& 0xFE#8 ||| 1#8 = b := by
  revert b
  decide

/-- Settles O56: the IRET pops the bytes the entry pushed, and neither writes a place but SYM, SP and those bytes. -/
theorem interruptThenReturn : Obligations.InterruptThenReturn := by
  intro s n src h hv hslow heven hfis hpage
  obtain ⟨-, henter⟩ := normalEntry s n src h hv hslow
  obtain ⟨t, ht, -, -, hspl, hsavedFlags, hhi, hlo, hflags, hsym, hentry, -⟩ := henter heven
  have hfis' : t.flag .fis = false := by rw [State.flag, hflags]; exact hfis
  obtain ⟨u, hu, huflags, hupc, huspl, husym, hret, -⟩ := normalReturn t (stepKeepsInvariant s t h.1 ht) hfis'
  have hpp : t.pp = s.pp := hentry (.sys .pp) (by simp [State.dstInd])
  have hstack : ∀ a, t.look (t.srcI a) = t.stored (s.dstInd a) := by
    intro a
    have hpages : t.srcPage = s.dstPage := by rw [← hpage, State.srcPage, hpp]; rfl
    rw [State.srcI, hpages]
    rfl
  have htwo : s.spl - 3#8 + 1#8 = s.spl - 2#8 := by bv_omega
  have hone : s.spl - 3#8 + 2#8 = s.spl - 1#8 := by bv_omega
  obtain ⟨-, he⟩ := State.served_eligible hv
  obtain ⟨-, hie, -⟩ := State.eligible_iff.1 he
  have hpc : u.pc = s.pc := by rw [hupc, hspl, htwo, hone, hstack, hstack, hhi, hlo, wordFrom_upper_lower]
  have hflags' : u.flags = s.flags := by rw [huflags, hspl, hstack, hsavedFlags]
  have hspl' : u.spl = s.spl := by rw [huspl, hspl, BitVec.sub_add_cancel]
  have hsym' : u.sym = s.sym := by rw [husym, hsym, or_one_and_mask_of_bit0 hie]
  refine ⟨t, u, ht, hu, hpc, hflags', hspl', hsym', fun l hl => ?_⟩
  by_cases hsys : l ∈ [.sys .flags, .sys .spl, .sys .sym]
  · simp only [List.mem_cons, List.not_mem_nil, or_false] at hsys
    rcases hsys with rfl | rfl | rfl
    · exact hflags'
    · exact hspl'
    · exact hsym'
  · refine (hret l hsys).trans (hentry l ?_)
    simp only [List.mem_cons, List.not_mem_nil, or_false, not_or] at hsys hl ⊢
    obtain ⟨-, hnotSpl, hnotSym⟩ := hsys
    exact ⟨hnotSym, hnotSpl, hl⟩

end Sys2Proof.Machine


/-! PROOFS. The guarded accesses: what a stop of a place does to LD, a load above ROM_TOP, and the stops of a fetch. -/

namespace Sys2Proof.Machine

/-! ## Where an access of a place stops -/

section
variable {s : State} {l : Loc} {r : Refusal}

theorem State.accessStop_pageAbsent {page : Nibble} (h : s.launch.nPages ≤ page.toNat) (a : Byte) :
    s.accessStop (.ram page a) = some .pageAbsent := if_neg (Nat.not_lt.2 h)

theorem State.accessStop_unimplemented (hmap : l.isMapped = true) (h : l ∈ s.launch.absent) :
    s.accessStop l = some .unimplementedRegister := by
  have hstop : (l.isMapped && s.launch.absent.contains l) = true := by rw [hmap, Bool.true_and, List.contains_iff_mem]; exact h
  cases l with
  | ram => cases hmap
  | _ => exact if_pos hstop

/-- A place that cannot be read cannot be written: the two registers with a guard of their own, IMR and PP, can always be read. -/
theorem State.writeStop_of_accessStop (h : s.accessStop l = some r) (v : Byte) : s.writeStop l v = some r := by
  cases l with
  | sys reg =>
    cases reg with
    | imr | pp => cases h
    | _ => exact h
  | _ => exact h

theorem State.readLoc_stops (h : s.accessStop l = some r) : s.readLoc l = .error (.refusal r) := by rw [State.readLoc, h]

theorem State.writeLoc_stops {v : Byte} (h : s.writeStop l v = some r) : s.writeLoc l v = .error (.refusal r) := by
  rw [State.writeLoc, h]

/-- LD R,IM stops where its destination does. -/
theorem exec_ld_R_IM_refused {a v : Byte} (h : s.writeStop (s.dstReg a) v = some r) : exec (.ld_R_IM a v) s = .refused r := by
  show finish (s.writeLoc (s.dstReg a) v) = _
  rw [State.writeLoc_stops h, finish_refusal]

/-- LD r,R stops where its source does. -/
theorem exec_ld_r_R_refused {a : Byte} (n : Nibble) (h : s.accessStop (s.srcR a) = some r) : exec (.ld_r_R n a) s = .refused r := by
  show finish (s.readLoc (s.srcR a) >>= s.writeLoc (s.dstWork n)) = _
  rw [State.readLoc_stops h, error_bind, finish_refusal]

end

/-! ## Guarded registers -/

/-- DDH is IMR (10_state.md R26). -/
theorem State.dstReg_imr (s : State) : s.dstReg 0xDD#8 = .sys .imr := by
  obtain ⟨-, -, -, hsys, -⟩ := registerAddressing s s.dstPage 0xDD#8
  exact hsys 13 (by decide) rfl

/-- DFH is PP (10_state.md R26). -/
theorem State.dstReg_pp (s : State) : s.dstReg 0xDF#8 = .sys .pp := by
  obtain ⟨-, -, -, hsys, -⟩ := registerAddressing s s.dstPage 0xDF#8
  exact hsys 15 (by decide) rfl

/-- A register the peripheral map speaks of, by its address: D0H to D2H, or E0H to FFH of the selected bank but IPR (10_state.md R35). -/
theorem State.regLoc_mapped (s : State) (page : Nibble) {a : Byte} {l : Loc}
    (h : a = 0xD0#8 ∧ l = .sys .t0cnt ∨ a = 0xD1#8 ∧ l = .sys .t0data ∨ a = 0xD2#8 ∧ l = .sys .t0con
      ∨ 0xE0 ≤ a.toNat ∧ ¬(a = 0xFF#8 ∧ s.flag .ba = false) ∧ l = .bank (s.flag .ba) (BitVec.ofNat 5 (a.toNat - 0xE0))) :
    s.regLoc page a = l ∧ l.isMapped = true := by
  obtain ⟨-, -, -, hsys, hbank, -⟩ := registerAddressing s page a
  rcases h with ⟨rfl, rfl⟩ | ⟨rfl, rfl⟩ | ⟨rfl, rfl⟩ | ⟨hlow, hipr, rfl⟩
  · exact ⟨hsys 0 (by decide) rfl, rfl⟩
  · exact ⟨hsys 1 (by decide) rfl, rfl⟩
  · exact ⟨hsys 2 (by decide) rfl, rfl⟩
  · exact ⟨hbank hlow hipr, rfl⟩

/-! ## Pages -/

/-- The two pages a value of PP names, as numbers (10_state.md R32). -/
theorem State.pagesExist_iff {s : State} {v : Byte} :
    s.pagesExist v = true ↔ v.toNat % 16 < s.launch.nPages ∧ v.toNat / 16 < s.launch.nPages := by
  have low : (v.extractLsb' 0 4).toNat = v.toNat % 16 := by
    rw [BitVec.extractLsb'_toNat, Nat.shiftRight_zero]
  have high : (v.extractLsb' 4 4).toNat = v.toNat / 16 := by
    have := v.isLt
    rw [BitVec.extractLsb'_toNat, Nat.shiftRight_eq_div_pow]
    omega
  rw [State.pagesExist, low, high, Bool.and_eq_true, decide_eq_true_iff, decide_eq_true_iff]

theorem State.writeStop_imr {s : State} (h : s.ie = true) (v : Byte) : s.writeStop (.sys .imr) v = some .maskWriteWhileEnabled :=
  if_pos h

theorem State.writeStop_pp {s : State} {v : Byte} (h : s.launch.nPages ≤ v.toNat % 16 ∨ s.launch.nPages ≤ v.toNat / 16) :
    s.writeStop (.sys .pp) v = some .pageSelect := by
  refine if_neg fun hexist => ?_
  obtain ⟨hlow, hhigh⟩ := State.pagesExist_iff.1 hexist
  omega

/-! ## Loads above ROM_TOP -/

/-- LDC through a form's address stops above ROM_TOP (20_memory.md R54). -/
theorem MemForm.ldc_above {s : State} (f : MemForm) (hf : ∀ l ∈ f.reads s, s.readable l = true)
    (h : s.launch.part.romTop < (f.address s).toNat) (d : Nibble) : exec (f.ldc d) s = .fault .progAddressOutOfRange := by
  have hread : s.memRead false (f.address s) = .error (.fault .progAddressOutOfRange) := State.progRead_above h
  rw [f.exec_ldc, f.gives_find s hf, ok_bind, State.loadMem, hread, error_bind, finish_fault]

/-! ## Fetches that stop -/

section
variable {s : State} (hs : s.fetchesNext)
include hs

/-- A step whose fetch stops is that stop. -/
theorem step_of_fetch_error {e : Stop} (h : s.fetch = .error e) : step s = finish (.error e) := by
  obtain ⟨henv, hpower, hwaiting, hserved⟩ := hs
  rw [step_fetches henv hpower hwaiting hserved, h]

/-- A step whose fetch begins or runs on above ROM_TOP (20_memory.md R54). -/
theorem step_fetches_above
    (h : s.launch.part.romTop + 1 < s.pc.toNat + lengthOf (s.codeAt 0) ∨ s.launch.part.romTop < s.pc.toNat) :
    step s = .fault .progAddressOutOfRange :=
  step_of_fetch_error hs (State.fetch_above h)

/-- A step that reads bytes the decoder rejects (30_encoding.md R88). -/
theorem step_rejects {op : Byte} {n : Nat} {e : DecodeError} (hop : s.codeAt 0 = op) (hlen : lengthOf op = n + 1)
    (htop : s.pc.toNat + n ≤ s.launch.part.romTop) (hd : decode (op :: (List.range n).map fun k => s.codeAt (k + 1)) = .error e) :
    step s = finish (.error (decodeStop e)) := by
  have hbytes : s.codeBytes s.pc.toNat (n + 1) = op :: (List.range n).map fun k => s.codeAt (k + 1) := by
    rw [← hop, State.codeBytes, List.range_succ_eq_map, List.map_cons, List.map_map]
    rfl
  refine step_of_fetch_error hs ?_
  rw [State.fetch_ok (by rw [← hlen, ← hop]; rfl) htop, hbytes, hd]

/-- D5H (30_encoding.md R88). -/
theorem step_illegalOpcode_first (hop : s.codeAt 0 = 0xD5#8) (htop : s.pc.toNat ≤ s.launch.part.romTop) :
    step s = .fault .illegalOpcode :=
  step_rejects hs (n := 0) hop rfl htop rfl

/-- 31H with low bits 11B, 57H with selector 1 (R88). -/
theorem step_illegalOpcode_second
    (h : s.codeAt 0 = 0x31#8 ∧ s.codeAt 1 &&& 3#8 = 3#8 ∨ s.codeAt 0 = 0x57#8 ∧ bitOf (s.codeAt 1) 0#3 = true)
    (htop : s.pc.toNat + 1 ≤ s.launch.part.romTop) : step s = .fault .illegalOpcode := by
  obtain ⟨-, hpointer, hrejects⟩ := reservedEncodingsRejected (s.codeAt 1) 0#8 0#8 []
  rcases h with ⟨hop, hlow⟩ | ⟨hop, hodd⟩
  · exact step_rejects hs hop rfl htop (hpointer hlow)
  · obtain ⟨-, hbitc, -⟩ := hrejects hodd
    exact step_rejects hs hop rfl htop hbitc

/-- 17H with selector 1 (R88). -/
theorem step_illegalOpcode_third (hop : s.codeAt 0 = 0x17#8) (hodd : bitOf (s.codeAt 1) 0#3 = true)
    (htop : s.pc.toNat + 2 ≤ s.launch.part.romTop) : step s = .fault .illegalOpcode := by
  obtain ⟨-, -, hrejects⟩ := reservedEncodingsRejected (s.codeAt 1) (s.codeAt 2) 0#8 []
  obtain ⟨hbcp, -⟩ := hrejects hodd
  exact step_rejects hs hop rfl htop hbcp

/-- CALL IA of an odd address (20_memory.md R60). -/
theorem step_oddTableAddress (hop : s.codeAt 0 = 0xD4#8) (hodd : bitOf (s.codeAt 1) 0#3 = true)
    (htop : s.pc.toNat + 1 ≤ s.launch.part.romTop) : step s = .refused .oddTableAddress := by
  obtain ⟨-, -, hrejects⟩ := reservedEncodingsRejected (s.codeAt 1) 0#8 0#8 []
  obtain ⟨-, -, hcall, -⟩ := hrejects hodd
  exact step_rejects hs hop rfl htop hcall

/-- An odd pair in the second byte of two (10_state.md R16). -/
theorem step_oddPair_second (hop : s.codeAt 0 ∈ [0xA0#8, 0x80#8, 0x30#8, 0xF4#8]) (hodd : bitOf (s.codeAt 1) 0#3 = true)
    (htop : s.pc.toNat + 1 ≤ s.launch.part.romTop) : step s = .refused .oddPair := by
  have hlen : ∀ op ∈ [0xA0#8, 0x80#8, 0x30#8, 0xF4#8], lengthOf op = 2 := by decide
  obtain ⟨-, -, hrejects⟩ := reservedEncodingsRejected (s.codeAt 1) 0#8 0#8 []
  obtain ⟨-, -, -, hpair, -⟩ := hrejects hodd
  exact step_rejects hs rfl (hlen _ hop) htop (hpair _ hop)

/-- An odd pair in the third byte of three, or as the source of LDW RR,RR in the second (R16). -/
theorem step_oddPair_third
    (h : s.codeAt 0 ∈ [0x84#8, 0x85#8, 0x86#8, 0x94#8, 0x95#8, 0x96#8, 0xC4#8, 0xC5#8] ∧ bitOf (s.codeAt 2) 0#3 = true
      ∨ s.codeAt 0 = 0xC4#8 ∧ bitOf (s.codeAt 1) 0#3 = true)
    (htop : s.pc.toNat + 2 ≤ s.launch.part.romTop) : step s = .refused .oddPair := by
  have hlen : ∀ op ∈ [0x84#8, 0x85#8, 0x86#8, 0x94#8, 0x95#8, 0x96#8, 0xC4#8, 0xC5#8], lengthOf op = 3 := by decide
  rcases h with ⟨hop, hodd⟩ | ⟨hop, hodd⟩
  · obtain ⟨-, -, hrejects⟩ := reservedEncodingsRejected (s.codeAt 2) (s.codeAt 1) 0#8 []
    obtain ⟨-, -, -, -, hpair, -⟩ := hrejects hodd
    exact step_rejects hs rfl (hlen _ hop) htop (hpair _ hop)
  · obtain ⟨-, -, hrejects⟩ := reservedEncodingsRejected (s.codeAt 1) (s.codeAt 2) 0#8 []
    obtain ⟨-, -, -, -, -, hsource, -⟩ := hrejects hodd
    exact step_rejects hs hop rfl htop hsource

/-- An odd pair in LDW RR,#iml, of four bytes (R16). -/
theorem step_oddPair_fourth (hop : s.codeAt 0 = 0xC6#8) (hodd : bitOf (s.codeAt 1) 0#3 = true)
    (htop : s.pc.toNat + 3 ≤ s.launch.part.romTop) : step s = .refused .oddPair := by
  obtain ⟨-, -, hrejects⟩ := reservedEncodingsRejected (s.codeAt 1) (s.codeAt 2) (s.codeAt 3) []
  obtain ⟨-, -, -, -, -, -, hldw⟩ := hrejects hodd
  exact step_rejects hs hop rfl htop hldw

end

/-- The length of an encoding, from its first byte (30_encoding.md R81). -/
theorem length_encode_of_head {i : Instr} {b : Byte} (h : (encode i)[0]? = some b) : (encode i).length = lengthOf b := by
  have hlen : (encode i).length = lengthOf ((encode i).headD 0#8) := Laws.encode_length i
  rw [hlen, List.headD_eq_head?_getD, List.head?_eq_getElem?, h, Option.getD_some]

/-- Settles O60: each access stops at the first guard it meets; a step stops where its bytes end or the decoder rejects them. -/
theorem guardedAccessesStop : Obligations.GuardedAccessesStop := by
  intro s v n p a
  refine ⟨fun hie => ?_, fun hpage => ?_, fun hs => ⟨State.srcPage_lt hs, State.dstPage_lt hs⟩, fun ha hpage => ?_, fun ha hpage => ?_,
    fun l habsent haddr => ?_, fun hp htop => (MemForm.Irr p).ldc_above hp htop n, fun hs => ?_⟩
  · exact exec_ld_R_IM_refused (by rw [State.dstReg_imr, State.writeStop_imr hie])
  · exact exec_ld_R_IM_refused (by rw [State.dstReg_pp, State.writeStop_pp hpage])
  · exact exec_ld_R_IM_refused (by
      rw [State.dstReg_prime ha, State.writeStop_of_accessStop (State.accessStop_pageAbsent hpage a)])
  · exact exec_ld_r_R_refused n (by rw [State.srcR_prime ha, State.accessStop_pageAbsent hpage])
  · obtain ⟨hdst, hmapped⟩ := s.regLoc_mapped s.dstPage haddr
    obtain ⟨hsrc, -⟩ := s.regLoc_mapped s.srcPage haddr
    have hstop : s.accessStop l = some .unimplementedRegister := State.accessStop_unimplemented hmapped habsent
    exact ⟨exec_ld_R_IM_refused (by rw [State.dstReg, hdst, State.writeStop_of_accessStop hstop]),
      exec_ld_r_R_refused n (by rw [State.srcR, hsrc, hstop])⟩
  · exact ⟨fun habove => step_fetches_above hs (.inr habove),
      fun i hhead habove => step_fetches_above hs (.inl (length_encode_of_head hhead ▸ habove)),
      fun htop hop => step_illegalOpcode_first hs hop htop,
      fun htop => ⟨fun h => step_illegalOpcode_second hs h htop, fun ⟨hop, hodd⟩ => step_oddTableAddress hs hop hodd htop,
        fun ⟨hop, hodd⟩ => step_oddPair_second hs hop hodd htop⟩,
      fun htop => ⟨fun ⟨hop, hodd⟩ => step_illegalOpcode_third hs hop hodd htop, fun h => step_oddPair_third hs h htop⟩,
      fun htop hop hodd => step_oddPair_fourth hs hop hodd htop⟩

end Sys2Proof.Machine
